-- ==== Sys2Proof/Word.lean ====
section
/-! DEFINITION. The bit-vector types of the block: the byte of the sample store, the 16-bit data of a
sample, the 32-bit record word, the 5-bit address code and the 1-bit strobe level (30_encoding.md R35,
R36; 00_scope.md R10: all values are unsigned). -/

namespace Sys2Proof

/-- One byte of the sample store (20_memory.md R24), or one half of a sample's data. -/
abbrev Byte := BitVec 8

/-- The 16-bit `data` of a sample (30_encoding.md R35). -/
abbrev Half := BitVec 16

/-- The 32-bit word of a record (20_memory.md R23). -/
abbrev Word := BitVec 32

/-- The 5-bit register selector `address` (30_encoding.md R35). -/
abbrev AddrCode := BitVec 5

/-- The captured level of an active-low strobe line: 0 means asserted (30_encoding.md R37). -/
abbrev Strobe := BitVec 1

end Sys2Proof
end

