-- ==== Sys2Proof/Config.lean ====
section
/-! DEFINITION. The configuration of a decode pass (00_scope.md R8): the ten register classes and the
five parameters the host supplies with each invocation. They are plain data held in the state and
constant during a pass (10_state.md R20; 70_reset_and_hazards.md R173); their default values stand in
Sys2Proof/Machine/Defaults.lean. There is no free value: the spec leaves no result undefined
(93_implementation_defined.md, end of section 1). -/

namespace Sys2Proof

/-- The ten register classes (40_register_map.md R47). -/
inductive RegClass where
  | cData
  | cErr
  | cScnt
  | cLbal
  | cLbam
  | cLbah
  | cDev
  | cStat
  | cAlt
  | cUnknown
  deriving DecidableEq, Repr

/-- The nine classes that are registers of the source's list, `C_UNKNOWN` left out
(40_register_map.md R47). -/
def RegClass.known : List RegClass :=
  [.cData, .cErr, .cScnt, .cLbal, .cLbam, .cLbah, .cDev, .cStat, .cAlt]

/-- The implementation parameters (00_scope.md R8), constant during one decode pass.

`addrMap` is `ADDR_MAP`, entry `a` being the class of address code `a`, so it is total by its type
(93 U12). `cmdNames` is `CMD_NAMES` as a list of entries of which the first with a given code counts
(40_register_map.md R60; log 5). `statusFlagNames` and `errFlagNames` have index 0 for bit 7. -/
structure Params where
  addrMap : Vector RegClass 32
  cmdNames : List (Byte × String)
  statusFlagNames : Vector String 8
  errFlagNames : Vector String 8
  flushOnTruncation : Bool
  deriving DecidableEq, Repr

end Sys2Proof
end

