-- ==== Sys2Proof/Syntax.lean ====
section
/-! DEFINITION. The instructions: one constructor per row of spec/opcode_table.json (30_encoding.md R45),
and the sample, the four fields a record carries (30_encoding.md R35).

A row is a strobe pattern and, for an access, an address code. The constructor is named after the
class the default `ADDR_MAP` gives that code; which class the code has in a given pass is looked up in
the parameters when the record is processed (log 4). -/

namespace Sys2Proof

/-- A sample: "one captured bus access" with exactly these four fields (30_encoding.md R35). -/
structure Sample where
  data : Half
  address : AddrCode
  dior : Strobe
  diow : Strobe
  deriving DecidableEq, Repr

/-- One constructor per row of the opcode table, in the table's order. The reserved bits of a record
are ignored (30_encoding.md R45 (c)) and have no operand. -/
inductive Instr where
  /-- `FRAMING.FE0`: strobes both 0, any address, any data (R92). -/
  | framingFe0 (address : AddrCode) (data : Half)
  /-- `FRAMING.FE1`: strobes both 1, any address, any data (R92). -/
  | framingFe1 (address : AddrCode) (data : Half)
  /-- `RD_UNKNOWN@0x00`: read of address code 0x00 (R111). -/
  | rdUnknown00 (data : Half)
  /-- `RD_UNKNOWN@0x01`: read of address code 0x01 (R111). -/
  | rdUnknown01 (data : Half)
  /-- `RD_UNKNOWN@0x02`: read of address code 0x02 (R111). -/
  | rdUnknown02 (data : Half)
  /-- `RD_UNKNOWN@0x03`: read of address code 0x03 (R111). -/
  | rdUnknown03 (data : Half)
  /-- `RD_UNKNOWN@0x04`: read of address code 0x04 (R111). -/
  | rdUnknown04 (data : Half)
  /-- `RD_UNKNOWN@0x05`: read of address code 0x05 (R111). -/
  | rdUnknown05 (data : Half)
  /-- `RD_UNKNOWN@0x06`: read of address code 0x06 (R111). -/
  | rdUnknown06 (data : Half)
  /-- `RD_UNKNOWN@0x07`: read of address code 0x07 (R111). -/
  | rdUnknown07 (data : Half)
  /-- `RD_UNKNOWN@0x08`: read of address code 0x08 (R111). -/
  | rdUnknown08 (data : Half)
  /-- `RD_UNKNOWN@0x09`: read of address code 0x09 (R111). -/
  | rdUnknown09 (data : Half)
  /-- `RD_UNKNOWN@0x0A`: read of address code 0x0A (R111). -/
  | rdUnknown0A (data : Half)
  /-- `RD_UNKNOWN@0x0B`: read of address code 0x0B (R111). -/
  | rdUnknown0B (data : Half)
  /-- `RD_UNKNOWN@0x0C`: read of address code 0x0C (R111). -/
  | rdUnknown0C (data : Half)
  /-- `RD_UNKNOWN@0x0D`: read of address code 0x0D (R111). -/
  | rdUnknown0D (data : Half)
  /-- `RD_ALT_STATUS`: read of address code 0x0E (R109). -/
  | rdAltStatus (data : Half)
  /-- `RD_UNKNOWN@0x0F`: read of address code 0x0F (R111). -/
  | rdUnknown0F (data : Half)
  /-- `RD_DATA`: read of address code 0x10 (R93). -/
  | rdData (data : Half)
  /-- `RD_ERROR`: read of address code 0x11 (R95). -/
  | rdError (data : Half)
  /-- `RD_SECTOR_COUNT`: read of address code 0x12 (R97). -/
  | rdSectorCount (data : Half)
  /-- `RD_LBA_LOW`: read of address code 0x13 (R99). -/
  | rdLbaLow (data : Half)
  /-- `RD_LBA_MID`: read of address code 0x14 (R101). -/
  | rdLbaMid (data : Half)
  /-- `RD_LBA_HIGH`: read of address code 0x15 (R103). -/
  | rdLbaHigh (data : Half)
  /-- `RD_DEVICE`: read of address code 0x16 (R105). -/
  | rdDevice (data : Half)
  /-- `RD_STATUS`: read of address code 0x17 (R107). -/
  | rdStatus (data : Half)
  /-- `RD_UNKNOWN@0x18`: read of address code 0x18 (R111). -/
  | rdUnknown18 (data : Half)
  /-- `RD_UNKNOWN@0x19`: read of address code 0x19 (R111). -/
  | rdUnknown19 (data : Half)
  /-- `RD_UNKNOWN@0x1A`: read of address code 0x1A (R111). -/
  | rdUnknown1A (data : Half)
  /-- `RD_UNKNOWN@0x1B`: read of address code 0x1B (R111). -/
  | rdUnknown1B (data : Half)
  /-- `RD_UNKNOWN@0x1C`: read of address code 0x1C (R111). -/
  | rdUnknown1C (data : Half)
  /-- `RD_UNKNOWN@0x1D`: read of address code 0x1D (R111). -/
  | rdUnknown1D (data : Half)
  /-- `RD_UNKNOWN@0x1E`: read of address code 0x1E (R111). -/
  | rdUnknown1E (data : Half)
  /-- `RD_UNKNOWN@0x1F`: read of address code 0x1F (R111). -/
  | rdUnknown1F (data : Half)
  /-- `WR_UNKNOWN@0x00`: write of address code 0x00 (R112). -/
  | wrUnknown00 (data : Half)
  /-- `WR_UNKNOWN@0x01`: write of address code 0x01 (R112). -/
  | wrUnknown01 (data : Half)
  /-- `WR_UNKNOWN@0x02`: write of address code 0x02 (R112). -/
  | wrUnknown02 (data : Half)
  /-- `WR_UNKNOWN@0x03`: write of address code 0x03 (R112). -/
  | wrUnknown03 (data : Half)
  /-- `WR_UNKNOWN@0x04`: write of address code 0x04 (R112). -/
  | wrUnknown04 (data : Half)
  /-- `WR_UNKNOWN@0x05`: write of address code 0x05 (R112). -/
  | wrUnknown05 (data : Half)
  /-- `WR_UNKNOWN@0x06`: write of address code 0x06 (R112). -/
  | wrUnknown06 (data : Half)
  /-- `WR_UNKNOWN@0x07`: write of address code 0x07 (R112). -/
  | wrUnknown07 (data : Half)
  /-- `WR_UNKNOWN@0x08`: write of address code 0x08 (R112). -/
  | wrUnknown08 (data : Half)
  /-- `WR_UNKNOWN@0x09`: write of address code 0x09 (R112). -/
  | wrUnknown09 (data : Half)
  /-- `WR_UNKNOWN@0x0A`: write of address code 0x0A (R112). -/
  | wrUnknown0A (data : Half)
  /-- `WR_UNKNOWN@0x0B`: write of address code 0x0B (R112). -/
  | wrUnknown0B (data : Half)
  /-- `WR_UNKNOWN@0x0C`: write of address code 0x0C (R112). -/
  | wrUnknown0C (data : Half)
  /-- `WR_UNKNOWN@0x0D`: write of address code 0x0D (R112). -/
  | wrUnknown0D (data : Half)
  /-- `WR_DEVICE_CONTROL`: write of address code 0x0E (R110). -/
  | wrDeviceControl (data : Half)
  /-- `WR_UNKNOWN@0x0F`: write of address code 0x0F (R112). -/
  | wrUnknown0F (data : Half)
  /-- `WR_DATA`: write of address code 0x10 (R94). -/
  | wrData (data : Half)
  /-- `WR_FEATURES`: write of address code 0x11 (R96). -/
  | wrFeatures (data : Half)
  /-- `WR_SECTOR_COUNT`: write of address code 0x12 (R98). -/
  | wrSectorCount (data : Half)
  /-- `WR_LBA_LOW`: write of address code 0x13 (R100). -/
  | wrLbaLow (data : Half)
  /-- `WR_LBA_MID`: write of address code 0x14 (R102). -/
  | wrLbaMid (data : Half)
  /-- `WR_LBA_HIGH`: write of address code 0x15 (R104). -/
  | wrLbaHigh (data : Half)
  /-- `WR_DEVICE`: write of address code 0x16 (R106). -/
  | wrDevice (data : Half)
  /-- `WR_COMMAND`: write of address code 0x17 (R108). -/
  | wrCommand (data : Half)
  /-- `WR_UNKNOWN@0x18`: write of address code 0x18 (R112). -/
  | wrUnknown18 (data : Half)
  /-- `WR_UNKNOWN@0x19`: write of address code 0x19 (R112). -/
  | wrUnknown19 (data : Half)
  /-- `WR_UNKNOWN@0x1A`: write of address code 0x1A (R112). -/
  | wrUnknown1A (data : Half)
  /-- `WR_UNKNOWN@0x1B`: write of address code 0x1B (R112). -/
  | wrUnknown1B (data : Half)
  /-- `WR_UNKNOWN@0x1C`: write of address code 0x1C (R112). -/
  | wrUnknown1C (data : Half)
  /-- `WR_UNKNOWN@0x1D`: write of address code 0x1D (R112). -/
  | wrUnknown1D (data : Half)
  /-- `WR_UNKNOWN@0x1E`: write of address code 0x1E (R112). -/
  | wrUnknown1E (data : Half)
  /-- `WR_UNKNOWN@0x1F`: write of address code 0x1F (R112). -/
  | wrUnknown1F (data : Half)
  deriving DecidableEq, Repr

end Sys2Proof
end

