-- ==== Sys2Proof/WellFormed.lean ====
section
/-! DEFINITION. The well-formedness checks.

Every term of `Instr` is well formed: its operands carry their widths in their types, and no
combination of them is illegal (30_encoding.md R45: "there are therefore no illegal encodings"). What
can be ill formed is a record with reserved bits set (legal to decode, not producible by `encode`), a
sample that breaks the strobe invariant, and an `ADDR_MAP` that gives a known class no code or two. -/

namespace Sys2Proof

/-- The reserved bits `w[23:21]` and `w[31:26]` are zero: the words `encode` produces
(41_sample_codec.md R62, R64). -/
def Word.canonical (w : Word) : Bool := w &&& 0xFCE00000#32 == 0#32

/-- "exactly one of `dior`/`diow` is asserted per valid sample" (30_encoding.md R37,
60_exceptions.md R152). A sample that fails this is decoded all the same, as a framing error. -/
def Sample.valid (s : Sample) : Bool := s.dior != s.diow

/-- How many of the 32 address codes have class `c`. -/
def Params.codeCount (p : Params) (c : RegClass) : Nat := p.addrMap.toList.count c

/-- 40_register_map.md R58: every class other than `C_UNKNOWN` has exactly one code. The decoder's
rules do not need it; the names of the sample syntax of 30_encoding.md R46 do, and `codeOfName` refuses
them under a map that fails it (93 U12). -/
def Params.wellFormed (p : Params) : Bool := RegClass.known.all fun c => p.codeCount c == 1

end Sys2Proof
end

