-- ==== Sys2Proof/Decode.lean ====
section
/-! DEFINITION. The Sample Codec (41_sample_codec.md) and the row selection (30_encoding.md R45): bytes to
word, word to sample, sample to instruction, and the encoder that goes the other way. Decoding is
total on every word; a byte list with no complete record at its head is rejected by name. -/

namespace Sys2Proof

/-! ### Byte order -/

/-- `le32`: the record word of four bytes in store order, lowest address first (20_memory.md R23). -/
def le32 (b0 b1 b2 b3 : Byte) : Word := b3 ++ b2 ++ b1 ++ b0

/-- The four bytes of a word in store order (41_sample_codec.md R62). -/
def wordBytes (w : Word) : List Byte :=
  [w.extractLsb' 0 8, w.extractLsb' 8 8, w.extractLsb' 16 8, w.extractLsb' 24 8]

/-! ### Word and sample -/

/-- `decode` of the codec on a record word (41_sample_codec.md R61). The reserved bits `w[23:21]` and
`w[31:26]` are ignored. -/
def decodeSample (w : Word) : Sample where
  data := w.extractLsb' 0 16
  address := w.extractLsb' 16 5
  dior := w.extractLsb' 24 1
  diow := w.extractLsb' 25 1

/-- `encode` of the codec as a record word (41_sample_codec.md R62); reserved bits are 0 (92 D10). -/
def encodeSample (s : Sample) : Word :=
  s.data.setWidth 32 ||| s.address.setWidth 32 <<< 16 ||| s.dior.setWidth 32 <<< 24 |||
    s.diow.setWidth 32 <<< 25

/-- A read sample: DIOR asserted, DIOW not (30_encoding.md R37). -/
def readSample (address : AddrCode) (data : Half) : Sample :=
  { data := data, address := address, dior := 0#1, diow := 1#1 }

/-- A write sample: DIOW asserted, DIOR not (30_encoding.md R37). -/
def writeSample (address : AddrCode) (data : Half) : Sample :=
  { data := data, address := address, dior := 1#1, diow := 0#1 }

/-! ### Sample and instruction -/

/-- The read rows of the opcode table, address code 0x00 first (match `0x02000000 | code << 16`). -/
def readRows : Vector (Half → Instr) 32 := #v[
  .rdUnknown00, .rdUnknown01, .rdUnknown02, .rdUnknown03,
  .rdUnknown04, .rdUnknown05, .rdUnknown06, .rdUnknown07,
  .rdUnknown08, .rdUnknown09, .rdUnknown0A, .rdUnknown0B,
  .rdUnknown0C, .rdUnknown0D, .rdAltStatus, .rdUnknown0F,
  .rdData, .rdError, .rdSectorCount, .rdLbaLow,
  .rdLbaMid, .rdLbaHigh, .rdDevice, .rdStatus,
  .rdUnknown18, .rdUnknown19, .rdUnknown1A, .rdUnknown1B,
  .rdUnknown1C, .rdUnknown1D, .rdUnknown1E, .rdUnknown1F]

/-- The write rows of the opcode table, address code 0x00 first (match `0x01000000 | code << 16`). -/
def writeRows : Vector (Half → Instr) 32 := #v[
  .wrUnknown00, .wrUnknown01, .wrUnknown02, .wrUnknown03,
  .wrUnknown04, .wrUnknown05, .wrUnknown06, .wrUnknown07,
  .wrUnknown08, .wrUnknown09, .wrUnknown0A, .wrUnknown0B,
  .wrUnknown0C, .wrUnknown0D, .wrDeviceControl, .wrUnknown0F,
  .wrData, .wrFeatures, .wrSectorCount, .wrLbaLow,
  .wrLbaMid, .wrLbaHigh, .wrDevice, .wrCommand,
  .wrUnknown18, .wrUnknown19, .wrUnknown1A, .wrUnknown1B,
  .wrUnknown1C, .wrUnknown1D, .wrUnknown1E, .wrUnknown1F]

/-- The row of a sample: the strobes first, the address second, no other bit (30_encoding.md R45). -/
def Instr.ofSample (s : Sample) : Instr :=
  if s.dior = s.diow then
    if s.dior = 0#1 then .framingFe0 s.address s.data else .framingFe1 s.address s.data
  else if s.dior = 0#1 then readRows.get s.address.toFin s.data
  else writeRows.get s.address.toFin s.data

/-- The sample of a row with its operands. -/
def Instr.sample : Instr → Sample
  | .framingFe0 a d => { data := d, address := a, dior := 0#1, diow := 0#1 }
  | .framingFe1 a d => { data := d, address := a, dior := 1#1, diow := 1#1 }
  | .rdUnknown00 d => readSample 0x00#5 d
  | .rdUnknown01 d => readSample 0x01#5 d
  | .rdUnknown02 d => readSample 0x02#5 d
  | .rdUnknown03 d => readSample 0x03#5 d
  | .rdUnknown04 d => readSample 0x04#5 d
  | .rdUnknown05 d => readSample 0x05#5 d
  | .rdUnknown06 d => readSample 0x06#5 d
  | .rdUnknown07 d => readSample 0x07#5 d
  | .rdUnknown08 d => readSample 0x08#5 d
  | .rdUnknown09 d => readSample 0x09#5 d
  | .rdUnknown0A d => readSample 0x0A#5 d
  | .rdUnknown0B d => readSample 0x0B#5 d
  | .rdUnknown0C d => readSample 0x0C#5 d
  | .rdUnknown0D d => readSample 0x0D#5 d
  | .rdAltStatus d => readSample 0x0E#5 d
  | .rdUnknown0F d => readSample 0x0F#5 d
  | .rdData d => readSample 0x10#5 d
  | .rdError d => readSample 0x11#5 d
  | .rdSectorCount d => readSample 0x12#5 d
  | .rdLbaLow d => readSample 0x13#5 d
  | .rdLbaMid d => readSample 0x14#5 d
  | .rdLbaHigh d => readSample 0x15#5 d
  | .rdDevice d => readSample 0x16#5 d
  | .rdStatus d => readSample 0x17#5 d
  | .rdUnknown18 d => readSample 0x18#5 d
  | .rdUnknown19 d => readSample 0x19#5 d
  | .rdUnknown1A d => readSample 0x1A#5 d
  | .rdUnknown1B d => readSample 0x1B#5 d
  | .rdUnknown1C d => readSample 0x1C#5 d
  | .rdUnknown1D d => readSample 0x1D#5 d
  | .rdUnknown1E d => readSample 0x1E#5 d
  | .rdUnknown1F d => readSample 0x1F#5 d
  | .wrUnknown00 d => writeSample 0x00#5 d
  | .wrUnknown01 d => writeSample 0x01#5 d
  | .wrUnknown02 d => writeSample 0x02#5 d
  | .wrUnknown03 d => writeSample 0x03#5 d
  | .wrUnknown04 d => writeSample 0x04#5 d
  | .wrUnknown05 d => writeSample 0x05#5 d
  | .wrUnknown06 d => writeSample 0x06#5 d
  | .wrUnknown07 d => writeSample 0x07#5 d
  | .wrUnknown08 d => writeSample 0x08#5 d
  | .wrUnknown09 d => writeSample 0x09#5 d
  | .wrUnknown0A d => writeSample 0x0A#5 d
  | .wrUnknown0B d => writeSample 0x0B#5 d
  | .wrUnknown0C d => writeSample 0x0C#5 d
  | .wrUnknown0D d => writeSample 0x0D#5 d
  | .wrDeviceControl d => writeSample 0x0E#5 d
  | .wrUnknown0F d => writeSample 0x0F#5 d
  | .wrData d => writeSample 0x10#5 d
  | .wrFeatures d => writeSample 0x11#5 d
  | .wrSectorCount d => writeSample 0x12#5 d
  | .wrLbaLow d => writeSample 0x13#5 d
  | .wrLbaMid d => writeSample 0x14#5 d
  | .wrLbaHigh d => writeSample 0x15#5 d
  | .wrDevice d => writeSample 0x16#5 d
  | .wrCommand d => writeSample 0x17#5 d
  | .wrUnknown18 d => writeSample 0x18#5 d
  | .wrUnknown19 d => writeSample 0x19#5 d
  | .wrUnknown1A d => writeSample 0x1A#5 d
  | .wrUnknown1B d => writeSample 0x1B#5 d
  | .wrUnknown1C d => writeSample 0x1C#5 d
  | .wrUnknown1D d => writeSample 0x1D#5 d
  | .wrUnknown1E d => writeSample 0x1E#5 d
  | .wrUnknown1F d => writeSample 0x1F#5 d

/-! ### Records -/

/-- Why a byte list has no record at its head (41_sample_codec.md R65). The two are distinct. -/
inductive DecodeError where
  /-- No byte is left: the end of the sequence exactly on a boundary. -/
  | endOfSequence
  /-- 1 to 3 bytes are left: `TruncatedRecord`. The stray bytes are counted, not decoded. -/
  | truncatedRecord (stray : Nat)
  deriving DecidableEq, Repr

/-- The instruction of a record word. Total: no word is illegal (30_encoding.md R45). -/
def decodeWord (w : Word) : Instr := Instr.ofSample (decodeSample w)

/-- The instruction at the head of a byte list, with the rest of the list; or the reason there is no
complete record (41_sample_codec.md R61, R65). -/
def decode : List Byte → Except DecodeError (Instr × List Byte)
  | [] => .error .endOfSequence
  | b0 :: b1 :: b2 :: b3 :: rest => .ok (decodeWord (le32 b0 b1 b2 b3), rest)
  | stray => .error (.truncatedRecord stray.length)

/-- The record word of an instruction (41_sample_codec.md R62; 30_encoding.md R46). -/
def encodeWord (i : Instr) : Word := encodeSample i.sample

/-- The four bytes of an instruction's record in store order (41_sample_codec.md R62). -/
def encode (i : Instr) : List Byte := wordBytes (encodeWord i)

/-! ### The opcode table -/

/-- One row of spec/opcode_table.json: a word `w` belongs to it when `w &&& mask = matchWord`. -/
structure OpcodeRow where
  mnemonic : String
  matchWord : Word
  mask : Word
  deriving DecidableEq, Repr

/-- The row of an instruction, transcribed from spec/opcode_table.json. -/
def Instr.row : Instr → OpcodeRow
  | .framingFe0 _ _ => ⟨"FRAMING.FE0", 0x00000000#32, 0x03000000#32⟩
  | .framingFe1 _ _ => ⟨"FRAMING.FE1", 0x03000000#32, 0x03000000#32⟩
  | .rdUnknown00 _ => ⟨"RD_UNKNOWN@0x00", 0x02000000#32, 0x031F0000#32⟩
  | .rdUnknown01 _ => ⟨"RD_UNKNOWN@0x01", 0x02010000#32, 0x031F0000#32⟩
  | .rdUnknown02 _ => ⟨"RD_UNKNOWN@0x02", 0x02020000#32, 0x031F0000#32⟩
  | .rdUnknown03 _ => ⟨"RD_UNKNOWN@0x03", 0x02030000#32, 0x031F0000#32⟩
  | .rdUnknown04 _ => ⟨"RD_UNKNOWN@0x04", 0x02040000#32, 0x031F0000#32⟩
  | .rdUnknown05 _ => ⟨"RD_UNKNOWN@0x05", 0x02050000#32, 0x031F0000#32⟩
  | .rdUnknown06 _ => ⟨"RD_UNKNOWN@0x06", 0x02060000#32, 0x031F0000#32⟩
  | .rdUnknown07 _ => ⟨"RD_UNKNOWN@0x07", 0x02070000#32, 0x031F0000#32⟩
  | .rdUnknown08 _ => ⟨"RD_UNKNOWN@0x08", 0x02080000#32, 0x031F0000#32⟩
  | .rdUnknown09 _ => ⟨"RD_UNKNOWN@0x09", 0x02090000#32, 0x031F0000#32⟩
  | .rdUnknown0A _ => ⟨"RD_UNKNOWN@0x0A", 0x020A0000#32, 0x031F0000#32⟩
  | .rdUnknown0B _ => ⟨"RD_UNKNOWN@0x0B", 0x020B0000#32, 0x031F0000#32⟩
  | .rdUnknown0C _ => ⟨"RD_UNKNOWN@0x0C", 0x020C0000#32, 0x031F0000#32⟩
  | .rdUnknown0D _ => ⟨"RD_UNKNOWN@0x0D", 0x020D0000#32, 0x031F0000#32⟩
  | .rdAltStatus _ => ⟨"RD_ALT_STATUS", 0x020E0000#32, 0x031F0000#32⟩
  | .rdUnknown0F _ => ⟨"RD_UNKNOWN@0x0F", 0x020F0000#32, 0x031F0000#32⟩
  | .rdData _ => ⟨"RD_DATA", 0x02100000#32, 0x031F0000#32⟩
  | .rdError _ => ⟨"RD_ERROR", 0x02110000#32, 0x031F0000#32⟩
  | .rdSectorCount _ => ⟨"RD_SECTOR_COUNT", 0x02120000#32, 0x031F0000#32⟩
  | .rdLbaLow _ => ⟨"RD_LBA_LOW", 0x02130000#32, 0x031F0000#32⟩
  | .rdLbaMid _ => ⟨"RD_LBA_MID", 0x02140000#32, 0x031F0000#32⟩
  | .rdLbaHigh _ => ⟨"RD_LBA_HIGH", 0x02150000#32, 0x031F0000#32⟩
  | .rdDevice _ => ⟨"RD_DEVICE", 0x02160000#32, 0x031F0000#32⟩
  | .rdStatus _ => ⟨"RD_STATUS", 0x02170000#32, 0x031F0000#32⟩
  | .rdUnknown18 _ => ⟨"RD_UNKNOWN@0x18", 0x02180000#32, 0x031F0000#32⟩
  | .rdUnknown19 _ => ⟨"RD_UNKNOWN@0x19", 0x02190000#32, 0x031F0000#32⟩
  | .rdUnknown1A _ => ⟨"RD_UNKNOWN@0x1A", 0x021A0000#32, 0x031F0000#32⟩
  | .rdUnknown1B _ => ⟨"RD_UNKNOWN@0x1B", 0x021B0000#32, 0x031F0000#32⟩
  | .rdUnknown1C _ => ⟨"RD_UNKNOWN@0x1C", 0x021C0000#32, 0x031F0000#32⟩
  | .rdUnknown1D _ => ⟨"RD_UNKNOWN@0x1D", 0x021D0000#32, 0x031F0000#32⟩
  | .rdUnknown1E _ => ⟨"RD_UNKNOWN@0x1E", 0x021E0000#32, 0x031F0000#32⟩
  | .rdUnknown1F _ => ⟨"RD_UNKNOWN@0x1F", 0x021F0000#32, 0x031F0000#32⟩
  | .wrUnknown00 _ => ⟨"WR_UNKNOWN@0x00", 0x01000000#32, 0x031F0000#32⟩
  | .wrUnknown01 _ => ⟨"WR_UNKNOWN@0x01", 0x01010000#32, 0x031F0000#32⟩
  | .wrUnknown02 _ => ⟨"WR_UNKNOWN@0x02", 0x01020000#32, 0x031F0000#32⟩
  | .wrUnknown03 _ => ⟨"WR_UNKNOWN@0x03", 0x01030000#32, 0x031F0000#32⟩
  | .wrUnknown04 _ => ⟨"WR_UNKNOWN@0x04", 0x01040000#32, 0x031F0000#32⟩
  | .wrUnknown05 _ => ⟨"WR_UNKNOWN@0x05", 0x01050000#32, 0x031F0000#32⟩
  | .wrUnknown06 _ => ⟨"WR_UNKNOWN@0x06", 0x01060000#32, 0x031F0000#32⟩
  | .wrUnknown07 _ => ⟨"WR_UNKNOWN@0x07", 0x01070000#32, 0x031F0000#32⟩
  | .wrUnknown08 _ => ⟨"WR_UNKNOWN@0x08", 0x01080000#32, 0x031F0000#32⟩
  | .wrUnknown09 _ => ⟨"WR_UNKNOWN@0x09", 0x01090000#32, 0x031F0000#32⟩
  | .wrUnknown0A _ => ⟨"WR_UNKNOWN@0x0A", 0x010A0000#32, 0x031F0000#32⟩
  | .wrUnknown0B _ => ⟨"WR_UNKNOWN@0x0B", 0x010B0000#32, 0x031F0000#32⟩
  | .wrUnknown0C _ => ⟨"WR_UNKNOWN@0x0C", 0x010C0000#32, 0x031F0000#32⟩
  | .wrUnknown0D _ => ⟨"WR_UNKNOWN@0x0D", 0x010D0000#32, 0x031F0000#32⟩
  | .wrDeviceControl _ => ⟨"WR_DEVICE_CONTROL", 0x010E0000#32, 0x031F0000#32⟩
  | .wrUnknown0F _ => ⟨"WR_UNKNOWN@0x0F", 0x010F0000#32, 0x031F0000#32⟩
  | .wrData _ => ⟨"WR_DATA", 0x01100000#32, 0x031F0000#32⟩
  | .wrFeatures _ => ⟨"WR_FEATURES", 0x01110000#32, 0x031F0000#32⟩
  | .wrSectorCount _ => ⟨"WR_SECTOR_COUNT", 0x01120000#32, 0x031F0000#32⟩
  | .wrLbaLow _ => ⟨"WR_LBA_LOW", 0x01130000#32, 0x031F0000#32⟩
  | .wrLbaMid _ => ⟨"WR_LBA_MID", 0x01140000#32, 0x031F0000#32⟩
  | .wrLbaHigh _ => ⟨"WR_LBA_HIGH", 0x01150000#32, 0x031F0000#32⟩
  | .wrDevice _ => ⟨"WR_DEVICE", 0x01160000#32, 0x031F0000#32⟩
  | .wrCommand _ => ⟨"WR_COMMAND", 0x01170000#32, 0x031F0000#32⟩
  | .wrUnknown18 _ => ⟨"WR_UNKNOWN@0x18", 0x01180000#32, 0x031F0000#32⟩
  | .wrUnknown19 _ => ⟨"WR_UNKNOWN@0x19", 0x01190000#32, 0x031F0000#32⟩
  | .wrUnknown1A _ => ⟨"WR_UNKNOWN@0x1A", 0x011A0000#32, 0x031F0000#32⟩
  | .wrUnknown1B _ => ⟨"WR_UNKNOWN@0x1B", 0x011B0000#32, 0x031F0000#32⟩
  | .wrUnknown1C _ => ⟨"WR_UNKNOWN@0x1C", 0x011C0000#32, 0x031F0000#32⟩
  | .wrUnknown1D _ => ⟨"WR_UNKNOWN@0x1D", 0x011D0000#32, 0x031F0000#32⟩
  | .wrUnknown1E _ => ⟨"WR_UNKNOWN@0x1E", 0x011E0000#32, 0x031F0000#32⟩
  | .wrUnknown1F _ => ⟨"WR_UNKNOWN@0x1F", 0x011F0000#32, 0x031F0000#32⟩

/-- The 66 rows, in the table's order: the framing rows, the read rows, the write rows. -/
def opcodeTable : List OpcodeRow :=
  [(Instr.framingFe0 0#5 0#16).row, (Instr.framingFe1 0#5 0#16).row] ++
    (readRows.toList.map fun r => (r 0#16).row) ++ (writeRows.toList.map fun r => (r 0#16).row)

/-! ### The host's reading of the opcode table -/

/-- The instruction the decoder reads from the bits `w`, of which the table gives `nbits`; bits above
`nbits` are 0. No record is longer than 32 bits (30_encoding.md R36), so a larger `nbits` is refused. -/
def decodeTableWord (nbits w : Nat) : Option Instr :=
  if 32 < nbits then none
  else
    match decode (wordBytes (BitVec.ofNat 32 (w % 2 ^ nbits))) with
    | .ok (i, []) => some i
    | _ => none

end Sys2Proof
end

