-- ==== Sys2Proof/Machine/Defaults.lean ====
section
/-! DEFINITION. The default values of the parameters (00_scope.md R8). -/

namespace Sys2Proof.Machine

/-- The default `ADDR_MAP` (40_register_map.md R48), code 0x00 first. The numbers are the spec's own
choice (92 D3) and no fact about the device. -/
def defaultAddrMap : Vector RegClass 32 := #v[
  .cUnknown, .cUnknown, .cUnknown, .cUnknown, .cUnknown, .cUnknown, .cUnknown, .cUnknown,
  .cUnknown, .cUnknown, .cUnknown, .cUnknown, .cUnknown, .cUnknown, .cAlt,     .cUnknown,
  .cData,    .cErr,     .cScnt,    .cLbal,    .cLbam,    .cLbah,    .cDev,     .cStat,
  .cUnknown, .cUnknown, .cUnknown, .cUnknown, .cUnknown, .cUnknown, .cUnknown, .cUnknown]

/-- The STATUS and ALT_STATUS vocabulary, bit 7 first (40_register_map.md R51). -/
def statusFlagNames : Vector String 8 :=
  #v["BSY", "DRDY", "DF", "DSC", "DRQ", "CORR", "IDX", "ERR"]

/-- The default ERROR vocabulary, bit 7 first (40_register_map.md R52; 92 D4). -/
def defaultErrFlagNames : Vector String 8 :=
  #v["BBK", "UNC", "MC", "IDNF", "MCR", "ABRT", "TK0NF", "AMNF"]

/-- The parameters at their defaults (00_scope.md R8); the command table, which has no default, is
the empty one (log 2). -/
def defaultParams : Params where
  addrMap := defaultAddrMap
  cmdNames := []
  statusFlagNames := statusFlagNames
  errFlagNames := defaultErrFlagNames
  flushOnTruncation := false

end Sys2Proof.Machine
end

