-- ==== Sys2Proof/Machine/Frame.lean ====
section
/-! DEFINITION. The output encoding: frames as records of typed fields (30_encoding.md R39 to R43). The
rendered text of a frame is not modelled (00_scope.md R5, "Presentation"; 92 D16). -/

namespace Sys2Proof.Machine

/-- The direction-resolved register name (40_register_map.md R47, R49): 12 named values and the
`Unknown(address)` family. -/
inductive RegName where
  | data
  | error
  | features
  | sectorCount
  | lbaLow
  | lbaMid
  | lbaHigh
  | device
  | status
  | command
  | altStatus
  | deviceControl
  | unknown (address : AddrCode)
  deriving DecidableEq, Repr

/-- The two flag vocabularies, `VOC_STATUS` and `VOC_ERROR` (40_register_map.md R51, R52). -/
inductive Vocab where
  | vocStatus
  | vocError
  deriving DecidableEq, Repr

/-- The annotation of a register frame (30_encoding.md R40): `A_NONE`, `A_FLAGS(vocab, bits)` with
exactly 8 Booleans, most significant first (40_register_map.md R53), or `A_CMD(code, name)`. -/
inductive Annotation where
  | aNone
  | aFlags (vocab : Vocab) (bits : Vector Bool 8)
  | aCmd (code : Byte) (name : String)
  deriving DecidableEq, Repr

/-- The category tag of a frame (30_encoding.md R43; 92 D7). -/
inductive Category where
  | catRead
  | catWrite
  | catStatus
  | catError
  deriving DecidableEq, Repr

/-- `F_REG`: one non-burst, non-suppressed, non-framing sample (30_encoding.md R40). -/
structure RegFrame where
  idx : Nat
  lo : Byte
  ascii : Char
  isRead : Bool
  reg : RegName
  ann : Annotation
  cat : Category
  deriving DecidableEq, Repr

/-- One dump row of a burst: at most 16 bytes, and one character per byte (30_encoding.md R41). -/
structure Row where
  offset : Nat
  bytes : List Byte
  ascii : List Char
  deriving DecidableEq, Repr

/-- `F_BURST`: the closing of a data burst, its summary and its rows in one frame
(30_encoding.md R41; 90 C2). -/
structure BurstFrame where
  start : Nat
  isRead : Bool
  byteLen : Nat
  rows : List Row
  cat : Category
  deriving DecidableEq, Repr

/-- `F_FRAMING`: one sample with equal strobes (30_encoding.md R42). -/
structure FramingFrame where
  idx : Nat
  sample : Sample
  cat : Category
  deriving DecidableEq, Repr

/-- `F_IOERR`: a truncated record (30_encoding.md R42). -/
structure IoErrFrame where
  idx : Nat
  strayBytes : Nat
  cat : Category
  deriving DecidableEq, Repr

/-- The four kinds of frame (30_encoding.md R39). -/
inductive Frame where
  | fReg (f : RegFrame)
  | fBurst (f : BurstFrame)
  | fFraming (f : FramingFrame)
  | fIoErr (f : IoErrFrame)
  deriving DecidableEq, Repr

/-- The numeric code of a frame's kind (30_encoding.md R39; 92 D14). -/
def Frame.kindCode : Frame → Nat
  | .fReg _ => 0
  | .fBurst _ => 1
  | .fFraming _ => 2
  | .fIoErr _ => 3

/-- The key of a frame: `start` for a burst, `idx` for the others (46_decoder_step.md R123). -/
def Frame.key : Frame → Nat
  | .fReg f => f.idx
  | .fBurst f => f.start
  | .fFraming f => f.idx
  | .fIoErr f => f.idx

end Sys2Proof.Machine
end

