-- ==== Sys2Proof/Machine/State.lean ====
section
/-! DEFINITION. The state of the decoder (10_state.md R13), with the two inputs of a pass that its step
reads, the sample store and the parameters; and the reasons a step can stop. -/

namespace Sys2Proof.Machine

/-- The sample store `SRC`: a finite sequence of `len` bytes addressed from 0 (20_memory.md R24).

It is held as its length and the list of its non-zero bytes, addresses strictly rising and below
`len`; every unlisted byte below `len` is zero (log 6). The form is `Memory.wf` of Machine/Ops.lean. -/
structure Memory where
  len : Nat
  cells : List Host.Cell
  deriving DecidableEq, Repr

/-- A duplicate tracker that has seen a read of its register (10_state.md R15). -/
structure Tracker where
  lastIdx : Nat
  lastData : Half
  deriving DecidableEq, Repr

/-- The open data burst with its buffer, first sample first (10_state.md R16; 20_memory.md R29). -/
structure Burst where
  start : Nat
  isRead : Bool
  buf : List Half
  deriving DecidableEq, Repr

/-- Whether the pass is live (10_state.md R17). -/
inductive Phase where
  | run
  | done
  | failed
  deriving DecidableEq, Repr

/-- The decoder's state record (10_state.md R13): `idx`, `trkS`, `trkA`, `burst`, `phase` and the
output `out`; then the inputs of the pass, the store `src` and the parameters `params`, which no step
writes (20_memory.md R28; 10_state.md R20; log 1, log 2). -/
structure State where
  idx : Nat
  trkS : Option Tracker
  trkA : Option Tracker
  burst : Option Burst
  phase : Phase
  out : List Frame
  src : Memory
  params : Params
  deriving DecidableEq, Repr

/-- The named reasons for which no step exists or no pass starts. `FramingError` and
`TruncatedRecord` are not among them: they are next states (60_exceptions.md R152, R153). -/
inductive Fault where
  /-- Raised by `inRun` and `step` when an item is offered in `DONE` or `FAILED`: "the decoder has no
  step" (46_decoder_step.md R118; 93 U10). Safe. -/
  | passOver
  /-- Raised by `step` when the fetch position `4*idx` lies beyond the end of the store, an address
  that does not exist (20_memory.md R24). No pass reaches it (46_decoder_step.md R120). Safe. -/
  | storeOverrun
  /-- Raised by `startPass` when the host cannot open the source: "operation never starts"
  (60_exceptions.md R154). Safe. -/
  | sourceUnopenable
  deriving DecidableEq, Repr

/-- The reasons for which an instruction is given no meaning. -/
inductive Refusal where
  /-- Raised only by an arm of `exec` whose instruction has no meaning yet; no arm is left. Safe. -/
  | notModelled (mnemonic : String)
  deriving DecidableEq, Repr

/-- The state at the start of a decode invocation (10_state.md R22). Reset touches neither the store
nor the parameters (70_reset_and_hazards.md R167); here they are the empty store (log 1) and the
defaults of 00_scope.md R8 (log 2), and `startPass` supplies others. -/
def State.reset : State where
  idx := 0
  trkS := none
  trkA := none
  burst := none
  phase := .run
  out := []
  src := { len := 0, cells := [] }
  params := defaultParams

end Sys2Proof.Machine
end

