-- ==== Sys2Proof/Machine/Operands.lean ====
section
/-! DEFINITION. The operand forms: the bytes of a sample's data, its strobes, its register class and its
register name (00_scope.md R11; 30_encoding.md R37, R38; 40_register_map.md R47 to R50). All pure. -/

namespace Sys2Proof.Machine

/-! ### Data bytes -/

/-- `lo8(d) = d[7:0]` (00_scope.md R11). -/
def lo8 (d : Half) : Byte := d.extractLsb' 0 8

/-- `hi8(d) = d[15:8]` (00_scope.md R11). -/
def hi8 (d : Half) : Byte := d.extractLsb' 8 8

/-- The printable range 0x20 to 0x7E, inclusive (00_scope.md R7, R11). -/
def printable (b : Byte) : Bool := 0x20#8 ≤ b && b ≤ 0x7E#8

/-- The ASCII character of a printable byte, `.` for any other (00_scope.md R11). -/
def asc (b : Byte) : Char := if printable b then Char.ofNat b.toNat else '.'

/-! ### Strobes -/

/-- Both or neither strobe asserted (42_framing_direction_annotation.md R67). -/
def isFraming (smp : Sample) : Bool := smp.dior == smp.diow

/-- `isRead = !dior`: the field value 0 is the asserted level (R68). -/
def isReadSample (smp : Sample) : Bool := smp.dior == 0#1

/-! ### Address -/

/-- The 3-bit offset of an address code under the spec's bit assignment (30_encoding.md R38). -/
def addrOffset (a : AddrCode) : BitVec 3 := a.extractLsb' 0 3

/-- The captured level of CS0 under the spec's bit assignment, 0 = asserted (30_encoding.md R38). -/
def addrCs0 (a : AddrCode) : BitVec 1 := a.extractLsb' 3 1

/-- The captured level of CS1 under the spec's bit assignment, 0 = asserted (30_encoding.md R38). -/
def addrCs1 (a : AddrCode) : BitVec 1 := a.extractLsb' 4 1

/-- `classOf(address) = ADDR_MAP(address)` (40_register_map.md R47). -/
def classOf (p : Params) (a : AddrCode) : RegClass := p.addrMap.get a.toFin

/-- The direction-resolved name of a class (40_register_map.md R47, R49). -/
def regName (cls : RegClass) (a : AddrCode) (isRead : Bool) : RegName :=
  match cls with
  | .cData => .data
  | .cErr => if isRead then .error else .features
  | .cScnt => .sectorCount
  | .cLbal => .lbaLow
  | .cLbam => .lbaMid
  | .cLbah => .lbaHigh
  | .cDev => .device
  | .cStat => if isRead then .status else .command
  | .cAlt => if isRead then .altStatus else .deviceControl
  | .cUnknown => .unknown a

/-- The lookup of the Register Map; it never fails (40_register_map.md R50). -/
def registerFor (p : Params) (a : AddrCode) (isRead : Bool) : RegName :=
  regName (classOf p a) a isRead

/-! ### Sample classes -/

/-- The 21 sample classes (45_sample_classes.md): framing error, or a direction and a register class. -/
inductive SampleClass where
  | framing
  | access (isRead : Bool) (cls : RegClass)
  deriving DecidableEq, Repr

/-- Class selection (30_encoding.md R45): the strobes first, then the address through `ADDR_MAP`. -/
def classify (p : Params) (smp : Sample) : SampleClass :=
  if isFraming smp then .framing else .access (isReadSample smp) (classOf p smp.address)

end Sys2Proof.Machine
end

