-- ==== Sys2Proof/Machine/Flags.lean ====
section
/-! DEFINITION. The flag breakdowns, the command lookup, the annotation and the category
(40_register_map.md R51 to R56; 42_framing_direction_annotation.md R69; 30_encoding.md R43). The "flags"
are bits of the captured ATA STATUS and ERROR values; the decoder has none of its own (10_state.md R19). -/

namespace Sys2Proof.Machine

/-! ### Flag breakdown -/

/-- The eight Booleans of a byte, most significant first: `bits[p] = byte[7 - p]` (R51, R52). -/
def flagBits (b : Byte) : Vector Bool 8 := Vector.ofFn fun p => b.getLsbD (7 - p.val)

/-- One token of a rendered breakdown: a flag's name, or the placeholder of a clear flag, whose
spelling is text rendering (40_register_map.md R53; 92 D5). -/
inductive FlagToken where
  | name (n : String)
  | placeholder
  deriving DecidableEq, Repr

/-- The tokens of a breakdown: a set bit gives its name, a clear one "a placeholder, not an omission"
(40_register_map.md R53). -/
def flagTokens (names : Vector String 8) (bits : Vector Bool 8) : List FlagToken :=
  List.zipWith (fun n b => if b then .name n else .placeholder) names.toList bits.toList

/-- The names of a vocabulary (00_scope.md R8). -/
def vocabNames (p : Params) : Vocab → Vector String 8
  | .vocStatus => p.statusFlagNames
  | .vocError => p.errFlagNames

/-- `statusFlags(byte)` (40_register_map.md R51). -/
def statusFlags (p : Params) (b : Byte) : List FlagToken :=
  flagTokens (vocabNames p .vocStatus) (flagBits b)

/-- `errorFlags(byte)` (40_register_map.md R52). -/
def errorFlags (p : Params) (b : Byte) : List FlagToken :=
  flagTokens (vocabNames p .vocError) (flagBits b)

/-- The tokens a frame's annotation shows: those of a breakdown, none for the other annotations. -/
def annotationTokens (p : Params) : Annotation → List FlagToken
  | .aFlags voc bits => flagTokens (vocabNames p voc) bits
  | .aNone => []
  | .aCmd _ _ => []

/-! ### Command lookup -/

/-- The name of an unresolved command code (40_register_map.md R55). -/
def unknownCommand : String := "UNKNOWN"

/-- `CMD_NAMES(code)`: the first entry with that code (40_register_map.md R55, R60). -/
def cmdName (p : Params) (code : Byte) : Option String := p.cmdNames.lookup code

/-- The name shown for a command code (40_register_map.md R55). -/
def lookupCommand (p : Params) (code : Byte) : String := (cmdName p code).getD unknownCommand

/-! ### Annotation and category -/

/-- The annotation of an access of class `cls` (R69, R70); the byte broken down, and the command
code, is the low byte (40_register_map.md R56). -/
def annotationOf (p : Params) (cls : RegClass) (isRead : Bool) (d : Half) : Annotation :=
  if isRead && (cls == .cStat || cls == .cAlt) then .aFlags .vocStatus (flagBits (lo8 d))
  else if isRead && cls == .cErr then .aFlags .vocError (flagBits (lo8 d))
  else if !isRead && cls == .cStat then .aCmd (lo8 d) (lookupCommand p (lo8 d))
  else .aNone

/-- Step 3, `annotate(s, isRead)`: class, register name and annotation
(42_framing_direction_annotation.md R69). It reads no decoder state. -/
def annotate (p : Params) (smp : Sample) (isRead : Bool) : RegClass × RegName × Annotation :=
  let cls := classOf p smp.address
  (cls, regName cls smp.address isRead, annotationOf p cls isRead smp.data)

/-- The category of an `F_REG` frame (30_encoding.md R43). -/
def category (reg : RegName) (isRead : Bool) : Category :=
  if !isRead then .catWrite
  else
    match reg with
    | .status => .catStatus
    | .altStatus => .catStatus
    | .error => .catError
    | _ => .catRead

/-- The category of an `F_BURST` frame (30_encoding.md R43). -/
def burstCategory (isRead : Bool) : Category := if isRead then .catRead else .catWrite

end Sys2Proof.Machine
end

