-- ==== Sys2Proof/Machine/Ops.lean ====
section
/-! DEFINITION. The named operations: the sample store, the fetch, the state updates, burst closing,
duplicate suppression, the shared procedures of 45_sample_classes.md R91, taking an exception, the end
of a pass and the start of one. -/

namespace Sys2Proof.Machine

/-! ### The sample store (20_memory.md) -/

/-- What an unlisted address below the length reads as (log 6). -/
def Memory.unlisted : Byte := 0#8

/-- The listed value of an address, or `Memory.unlisted`. -/
def cellGet : List Host.Cell → Nat → Byte
  | [], _ => Memory.unlisted
  | (a', b) :: cs, a => if a' = a then b else cellGet cs a

/-- Set one byte, keeping the addresses strictly rising and no entry equal to `Memory.unlisted`. -/
def cellSet : List Host.Cell → Nat → Byte → List Host.Cell
  | [], a, b => if b = Memory.unlisted then [] else [(a, b)]
  | (a', b') :: cs, a, b =>
    if a < a' then if b = Memory.unlisted then (a', b') :: cs else (a, b) :: (a', b') :: cs
    else if a = a' then if b = Memory.unlisted then cs else (a, b) :: cs
    else (a', b') :: cellSet cs a b

/-- The canonical form: addresses strictly rising, below the length, and no entry equal to what an
unlisted address reads as. Equal stores are then equal data. -/
abbrev Memory.wf (m : Memory) : Prop :=
  m.cells.Pairwise (fun c d => c.1 < d.1) ∧
    ∀ c ∈ m.cells, c.2 ≠ Memory.unlisted ∧ c.1 < m.len

/-- The byte at an offset of the store (20_memory.md R24); meaningful below the length. -/
def Memory.byteAt (m : Memory) (a : Nat) : Byte := cellGet m.cells a

/-- `MemRead(addr, n)`: the bytes at `addr .. addr+n-1`, lowest address first; "defined only when
`addr + n <= len(SRC)`" (00_scope.md R11; 20_memory.md R24). -/
def Memory.read (m : Memory) (addr n : Nat) : Option (List Byte) :=
  if addr + n ≤ m.len then some ((List.range n).map fun k => m.byteAt (addr + k)) else none

/-- `MemWrite` of one byte, the environment's operation (00_scope.md R11); the decoder never writes the
store (20_memory.md R28). A write at or past the end extends the store. -/
def Memory.write (m : Memory) (addr : Nat) (b : Byte) : Memory :=
  { len := max m.len (addr + 1), cells := cellSet m.cells addr b }

/-- `MemWrite(addr, n, v)`: consecutive bytes, lowest address first. -/
def Memory.writeBytes (m : Memory) (addr : Nat) : List Byte → Memory
  | [] => m
  | b :: bs => (m.write addr b).writeBytes (addr + 1) bs

/-- Appending to the store, as the acquisition does (20_memory.md R28; 47 R125). -/
def Memory.append (m : Memory) (bs : List Byte) : Memory := m.writeBytes m.len bs

/-- The store with exactly these bytes. -/
def Memory.ofBytes (bs : List Byte) : Memory := Memory.append { len := 0, cells := [] } bs

/-- The store of a list of records, the canonical test input (70_reset_and_hazards.md R170). -/
def Memory.ofInstrs (is : List Instr) : Memory := Memory.ofBytes (is.flatMap encode)

/-- `NREC`, the number of complete records (20_memory.md R24). -/
def Memory.recordCount (m : Memory) : Nat := m.len / 4

/-- `REM`, the number of bytes after the last complete record (20_memory.md R24). -/
def Memory.remainder (m : Memory) : Nat := m.len % 4

/-! ### Fetch (41_sample_codec.md R65) -/

/-- An input item (46_decoder_step.md R113). -/
inductive Item where
  | record (i : Instr)
  | endOfStore
  | tail (k : Nat)
  deriving DecidableEq, Repr

/-- What the codec makes of the bytes it is handed (41_sample_codec.md R65). -/
def itemOf (bytes : List Byte) : Item :=
  match decode bytes with
  | .ok (i, _) => .record i
  | .error .endOfSequence => .endOfStore
  | .error (.truncatedRecord k) => .tail k

/-- `nextItem(SRC, idx)`: the codec is handed the bytes from `4*idx`, at most four of them. `none` when
`4*idx` lies beyond the end of the store, where there is nothing to read (20_memory.md R24). -/
def nextItem (m : Memory) (idx : Nat) : Option Item :=
  (m.read (4 * idx) (min 4 (m.len - 4 * idx))).map itemOf

/-! ### State updates -/

/-- `emit f`: append a frame to the output (00_scope.md R11; 10_state.md R18). -/
def emit (f : Frame) (s : State) : State := { s with out := s.out ++ [f] }

/-- `S.idx <- i + 1`: the record is consumed (10_state.md R14). -/
def advance (s : State) : State := { s with idx := s.idx + 1 }

/-- `S.burst <- b`. -/
def setBurst (b : Option Burst) (s : State) : State := { s with burst := b }

/-- `S.phase <- p`. -/
def setPhase (p : Phase) (s : State) : State := { s with phase := p }

/-- The tracker of a candidate's class: `trkS` for `C_STAT`, else `trkA` (R74). -/
def trackerOf (cls : RegClass) (s : State) : Option Tracker :=
  if cls = .cStat then s.trkS else s.trkA

/-- `T <- some(lastIdx, lastData)` for the tracker of a candidate's class (R76, R77). -/
def setTracker (cls : RegClass) (t : Tracker) (s : State) : State :=
  if cls = .cStat then { s with trkS := some t } else { s with trkA := some t }

/-! ### Closing a burst (44_data_burst.md) -/

/-- The two bytes of a sample in a dump, low byte then high byte (44_data_burst.md R86). -/
def sampleBytes (d : Half) : List Byte := [lo8 d, hi8 d]

/-- Dump row `r` of a buffer: samples `8r` to `min(8r + 8, N) - 1` (44_data_burst.md R85). -/
def dumpRow (buf : List Half) (r : Nat) : Row :=
  let bytes := ((buf.drop (8 * r)).take 8).flatMap sampleBytes
  { offset := 16 * r, bytes := bytes, ascii := bytes.map asc }

/-- The `ceil(N/8)` rows of a buffer (44_data_burst.md R85; 46_decoder_step.md R120). -/
def dumpRows (buf : List Half) : List Row :=
  (List.range ((buf.length + 7) / 8)).map (dumpRow buf)

/-- `closeBurst`: the one frame of a burst (44_data_burst.md R84). -/
def closeBurst (b : Burst) : Frame :=
  .fBurst
    { start := b.start
      isRead := b.isRead
      byteLen := 2 * b.buf.length
      rows := dumpRows b.buf
      cat := burstCategory b.isRead }

/-- Close the burst if one is open: emit its frame, then `S.burst <- none`. The one function reached
from both triggers (44_data_burst.md R83, R87). -/
def flushBurst (s : State) : State :=
  match s.burst with
  | none => s
  | some b => setBurst none (emit (closeBurst b) s)

/-! ### Duplicate suppression (43_duplicate_suppression.md) -/

/-- Which samples the step applies to, among those that passed the framing check (R74). -/
def isDupCandidate (cls : RegClass) (isRead : Bool) : Bool :=
  isRead && (cls == .cStat || cls == .cAlt)

/-- The suppression condition (R75): equal `data`, all 16 bits, at the very next index. A register not
read before is never a duplicate. -/
def isDuplicate (t : Option Tracker) (i : Nat) (d : Half) : Bool :=
  match t with
  | none => false
  | some t => i == t.lastIdx + 1 && d == t.lastData

/-- What `dupStep` answers. -/
inductive DupVerdict where
  | suppressed
  | emitted
  deriving DecidableEq, Repr

/-- `dupStep` (R76, R77): whether the candidate is suppressed, and the state with the marker moved to
it. On a duplicate the marker keeps `lastData`, which equals the sample's data. -/
def dupStep (cls : RegClass) (smp : Sample) (s : State) : DupVerdict × State :=
  let s' := setTracker cls { lastIdx := s.idx, lastData := smp.data } s
  if isDuplicate (trackerOf cls s) s.idx smp.data then (.suppressed, s') else (.emitted, s')

/-! ### The shared procedures (45_sample_classes.md R91) -/

/-- The frame of one register access (30_encoding.md R40). -/
def regFrame (p : Params) (smp : Sample) (isRead : Bool) (i : Nat) : RegFrame :=
  let (_, reg, ann) := annotate p smp isRead
  { idx := i
    lo := lo8 smp.data
    ascii := asc (lo8 smp.data)
    isRead := isRead
    reg := reg
    ann := ann
    cat := category reg isRead }

/-- `emitReg` (R91). -/
def emitReg (smp : Sample) (isRead : Bool) (s : State) : State :=
  emit (.fReg (regFrame s.params smp isRead s.idx)) s

/-- `regSample` (R91): close an open burst, test for a duplicate, emit unless suppressed, advance. -/
def regSample (smp : Sample) (isRead : Bool) (cls : RegClass) (s : State) : State :=
  let s1 := flushBurst s
  if isDupCandidate cls isRead then
    match dupStep cls smp s1 with
    | (.suppressed, s2) => advance s2
    | (.emitted, s2) => advance (emitReg smp isRead s2)
  else advance (emitReg smp isRead s1)

/-- The burst after one more DATA sample (44_data_burst.md R81, R82, R88). -/
def absorb (i : Nat) (isRead : Bool) (d : Half) : Option Burst → Burst
  | none => { start := i, isRead := isRead, buf := [d] }
  | some b => { b with buf := b.buf ++ [d] }

/-- `dataSample` (R91): open or extend the burst, advance; no frame. -/
def dataSample (smp : Sample) (isRead : Bool) (s : State) : State :=
  advance (setBurst (some (absorb s.idx isRead smp.data s.burst)) s)

/-- Steps 2 to 6 for a sample that passed the framing check (46_decoder_step.md R114). -/
def access (smp : Sample) (s : State) : State :=
  let isRead := isReadSample smp
  match classOf s.params smp.address with
  | .cData => dataSample smp isRead s
  | cls => regSample smp isRead cls s

/-! ### Exceptions (60_exceptions.md) -/

/-- The exceptional conditions (60_exceptions.md R151) with what each records. -/
inductive Exception where
  | framingError (s : Sample)
  | truncatedRecord (k : Nat)
  | sourceUnopenable
  deriving DecidableEq, Repr

/-- The numeric codes (60_exceptions.md R151; 92 D14). -/
def Exception.code : Exception → Nat
  | .framingError _ => 1
  | .truncatedRecord _ => 2
  | .sourceUnopenable => 3

/-- Taking an exception (60_exceptions.md R152 to R154, R158). Nothing is saved and no mode changes:
the frame is the whole report. `FramingError` goes on with the next index, `TruncatedRecord` ends the
pass, `SourceUnopenable` records nothing in the decoder. There is no return (R159). -/
def takeException (e : Exception) (s : State) : State :=
  match e with
  | .framingError smp =>
    advance (emit (.fFraming { idx := s.idx, sample := smp, cat := .catError }) s)
  | .truncatedRecord k =>
    setPhase .failed (emit (.fIoErr { idx := s.idx, strayBytes := k, cat := .catError }) s)
  | .sourceUnopenable => s

/-! ### The end and the start of a pass -/

/-- `endOfInput` (46_decoder_step.md R116): the terminal flush, then `DONE`. -/
def endOfInput (s : State) : State := setPhase .done (flushBurst s)

/-- `truncated(S, k)` (46_decoder_step.md R117): an open burst is flushed only if
`FLUSH_ON_TRUNCATION`; then the exception is taken. -/
def truncated (k : Nat) (s : State) : State :=
  takeException (.truncatedRecord k) (if s.params.flushOnTruncation then flushBurst s else s)

/-- An item is consumed only while the pass is live: "in `DONE` or `FAILED` the decoder has no step"
(46_decoder_step.md R114, R118). -/
def inRun (s : State) (effect : State → State) : Host.Outcome State Fault Refusal :=
  match s.phase with
  | .run => .next (effect s)
  | .done => .fault .passOver
  | .failed => .fault .passOver

/-- A decode invocation (70_reset_and_hazards.md R166, R167, R169): the reset state with the host's
store and parameters. With no source that can be opened the pass never starts (60_exceptions.md R154).
It depends on no earlier state: this is also the restart (46_decoder_step.md R118, R122). -/
def startPass (source : Option Memory) (p : Params) : Host.Outcome State Fault Refusal :=
  match source with
  | none => .fault .sourceUnopenable
  | some m => .next { State.reset with src := m, params := p }

end Sys2Proof.Machine
end

