-- ==== Sys2Proof/Machine/Data.lean ====
section
/-! DEFINITION. The DATA rows (45_sample_classes.md R93, R94). Under the default `ADDR_MAP` the code
is `C_DATA`: the sample opens or extends a burst, and no frame is emitted. The class of the code is
looked up in the pass's `ADDR_MAP` when the record is processed (30_encoding.md R45; log 4). -/

namespace Sys2Proof.Machine

/-- `RD_DATA` (R93): read of code 0x10, default class `C_DATA`. -/
def execRdData (data : Half) (s : State) : Host.Outcome State Fault Refusal :=
  inRun s (access (readSample 0x10#5 data))

/-- `WR_DATA` (R94): write of code 0x10, default class `C_DATA`. -/
def execWrData (data : Half) (s : State) : Host.Outcome State Fault Refusal :=
  inRun s (access (writeSample 0x10#5 data))

end Sys2Proof.Machine
end

