-- ==== Sys2Proof/Machine/Framing.lean ====
section
/-! DEFINITION. The framing-error rows (45_sample_classes.md R92; 42_framing_direction_annotation.md
R67). The record is reported and consumed, and contributes to no other rule. -/

namespace Sys2Proof.Machine

/-- `FRAMING.FE0` (R92): takes the framing-error exception with the decoded sample. -/
def execFramingFe0 (address : AddrCode) (data : Half) (s : State) : Host.Outcome State Fault Refusal :=
  inRun s (takeException (.framingError
    { data := data, address := address, dior := 0#1, diow := 0#1 }))

/-- `FRAMING.FE1` (R92): takes the framing-error exception with the decoded sample. -/
def execFramingFe1 (address : AddrCode) (data : Half) (s : State) : Host.Outcome State Fault Refusal :=
  inRun s (takeException (.framingError
    { data := data, address := address, dior := 1#1, diow := 1#1 }))

end Sys2Proof.Machine
end

