-- ==== Sys2Proof/Machine/Status.lean ====
section
/-! DEFINITION. The STATUS, COMMAND, ALT_STATUS and DEVICE_CONTROL rows (45_sample_classes.md R107
to R110). Under the default `ADDR_MAP` the two reads are the duplicate candidates, each with its own
tracker. The class of the code is looked up in the pass's `ADDR_MAP` when the record is processed
(30_encoding.md R45; log 4). -/

namespace Sys2Proof.Machine

/-- `RD_STATUS` (R107): read of code 0x17, default class `C_STAT`. -/
def execRdStatus (data : Half) (s : State) : Host.Outcome State Fault Refusal :=
  inRun s (access (readSample 0x17#5 data))

/-- `WR_COMMAND` (R108): write of code 0x17, default class `C_STAT`. -/
def execWrCommand (data : Half) (s : State) : Host.Outcome State Fault Refusal :=
  inRun s (access (writeSample 0x17#5 data))

/-- `RD_ALT_STATUS` (R109): read of code 0x0E, default class `C_ALT`. -/
def execRdAltStatus (data : Half) (s : State) : Host.Outcome State Fault Refusal :=
  inRun s (access (readSample 0x0E#5 data))

/-- `WR_DEVICE_CONTROL` (R110): write of code 0x0E, default class `C_ALT`. -/
def execWrDeviceControl (data : Half) (s : State) : Host.Outcome State Fault Refusal :=
  inRun s (access (writeSample 0x0E#5 data))

end Sys2Proof.Machine
end

