-- ==== Sys2Proof/Machine/TaskFile.lean ====
section
/-! DEFINITION. The ERROR, FEATURES, SECTOR_COUNT, LBA and DEVICE rows (45_sample_classes.md R95 to
R106). Under the default `ADDR_MAP` each closes an open burst and emits one frame; none is a
duplicate candidate. The class of the code is looked up in the pass's `ADDR_MAP` when the record is
processed (30_encoding.md R45; log 4). -/

namespace Sys2Proof.Machine

/-- `RD_ERROR` (R95): read of code 0x11, default class `C_ERR`. -/
def execRdError (data : Half) (s : State) : Host.Outcome State Fault Refusal :=
  inRun s (access (readSample 0x11#5 data))

/-- `WR_FEATURES` (R96): write of code 0x11, default class `C_ERR`. -/
def execWrFeatures (data : Half) (s : State) : Host.Outcome State Fault Refusal :=
  inRun s (access (writeSample 0x11#5 data))

/-- `RD_SECTOR_COUNT` (R97): read of code 0x12, default class `C_SCNT`. -/
def execRdSectorCount (data : Half) (s : State) : Host.Outcome State Fault Refusal :=
  inRun s (access (readSample 0x12#5 data))

/-- `WR_SECTOR_COUNT` (R98): write of code 0x12, default class `C_SCNT`. -/
def execWrSectorCount (data : Half) (s : State) : Host.Outcome State Fault Refusal :=
  inRun s (access (writeSample 0x12#5 data))

/-- `RD_LBA_LOW` (R99): read of code 0x13, default class `C_LBAL`. -/
def execRdLbaLow (data : Half) (s : State) : Host.Outcome State Fault Refusal :=
  inRun s (access (readSample 0x13#5 data))

/-- `WR_LBA_LOW` (R100): write of code 0x13, default class `C_LBAL`. -/
def execWrLbaLow (data : Half) (s : State) : Host.Outcome State Fault Refusal :=
  inRun s (access (writeSample 0x13#5 data))

/-- `RD_LBA_MID` (R101): read of code 0x14, default class `C_LBAM`. -/
def execRdLbaMid (data : Half) (s : State) : Host.Outcome State Fault Refusal :=
  inRun s (access (readSample 0x14#5 data))

/-- `WR_LBA_MID` (R102): write of code 0x14, default class `C_LBAM`. -/
def execWrLbaMid (data : Half) (s : State) : Host.Outcome State Fault Refusal :=
  inRun s (access (writeSample 0x14#5 data))

/-- `RD_LBA_HIGH` (R103): read of code 0x15, default class `C_LBAH`. -/
def execRdLbaHigh (data : Half) (s : State) : Host.Outcome State Fault Refusal :=
  inRun s (access (readSample 0x15#5 data))

/-- `WR_LBA_HIGH` (R104): write of code 0x15, default class `C_LBAH`. -/
def execWrLbaHigh (data : Half) (s : State) : Host.Outcome State Fault Refusal :=
  inRun s (access (writeSample 0x15#5 data))

/-- `RD_DEVICE` (R105): read of code 0x16, default class `C_DEV`. -/
def execRdDevice (data : Half) (s : State) : Host.Outcome State Fault Refusal :=
  inRun s (access (readSample 0x16#5 data))

/-- `WR_DEVICE` (R106): write of code 0x16, default class `C_DEV`. -/
def execWrDevice (data : Half) (s : State) : Host.Outcome State Fault Refusal :=
  inRun s (access (writeSample 0x16#5 data))

end Sys2Proof.Machine
end

