-- ==== Sys2Proof/Machine/Unknown.lean ====
section
/-! DEFINITION. The rows of the 23 address codes the default `ADDR_MAP` leaves unassigned
(45_sample_classes.md R111, R112): "never an error". The class of the code is looked up in the
pass's `ADDR_MAP` when the record is processed (30_encoding.md R45; log 4). -/

namespace Sys2Proof.Machine

/-- `RD_UNKNOWN@0x00` (R111): read of code 0x00, default class `C_UNKNOWN`. -/
def execRdUnknown00 (data : Half) (s : State) : Host.Outcome State Fault Refusal :=
  inRun s (access (readSample 0x00#5 data))

/-- `RD_UNKNOWN@0x01` (R111): read of code 0x01, default class `C_UNKNOWN`. -/
def execRdUnknown01 (data : Half) (s : State) : Host.Outcome State Fault Refusal :=
  inRun s (access (readSample 0x01#5 data))

/-- `RD_UNKNOWN@0x02` (R111): read of code 0x02, default class `C_UNKNOWN`. -/
def execRdUnknown02 (data : Half) (s : State) : Host.Outcome State Fault Refusal :=
  inRun s (access (readSample 0x02#5 data))

/-- `RD_UNKNOWN@0x03` (R111): read of code 0x03, default class `C_UNKNOWN`. -/
def execRdUnknown03 (data : Half) (s : State) : Host.Outcome State Fault Refusal :=
  inRun s (access (readSample 0x03#5 data))

/-- `RD_UNKNOWN@0x04` (R111): read of code 0x04, default class `C_UNKNOWN`. -/
def execRdUnknown04 (data : Half) (s : State) : Host.Outcome State Fault Refusal :=
  inRun s (access (readSample 0x04#5 data))

/-- `RD_UNKNOWN@0x05` (R111): read of code 0x05, default class `C_UNKNOWN`. -/
def execRdUnknown05 (data : Half) (s : State) : Host.Outcome State Fault Refusal :=
  inRun s (access (readSample 0x05#5 data))

/-- `RD_UNKNOWN@0x06` (R111): read of code 0x06, default class `C_UNKNOWN`. -/
def execRdUnknown06 (data : Half) (s : State) : Host.Outcome State Fault Refusal :=
  inRun s (access (readSample 0x06#5 data))

/-- `RD_UNKNOWN@0x07` (R111): read of code 0x07, default class `C_UNKNOWN`. -/
def execRdUnknown07 (data : Half) (s : State) : Host.Outcome State Fault Refusal :=
  inRun s (access (readSample 0x07#5 data))

/-- `RD_UNKNOWN@0x08` (R111): read of code 0x08, default class `C_UNKNOWN`. -/
def execRdUnknown08 (data : Half) (s : State) : Host.Outcome State Fault Refusal :=
  inRun s (access (readSample 0x08#5 data))

/-- `RD_UNKNOWN@0x09` (R111): read of code 0x09, default class `C_UNKNOWN`. -/
def execRdUnknown09 (data : Half) (s : State) : Host.Outcome State Fault Refusal :=
  inRun s (access (readSample 0x09#5 data))

/-- `RD_UNKNOWN@0x0A` (R111): read of code 0x0A, default class `C_UNKNOWN`. -/
def execRdUnknown0A (data : Half) (s : State) : Host.Outcome State Fault Refusal :=
  inRun s (access (readSample 0x0A#5 data))

/-- `RD_UNKNOWN@0x0B` (R111): read of code 0x0B, default class `C_UNKNOWN`. -/
def execRdUnknown0B (data : Half) (s : State) : Host.Outcome State Fault Refusal :=
  inRun s (access (readSample 0x0B#5 data))

/-- `RD_UNKNOWN@0x0C` (R111): read of code 0x0C, default class `C_UNKNOWN`. -/
def execRdUnknown0C (data : Half) (s : State) : Host.Outcome State Fault Refusal :=
  inRun s (access (readSample 0x0C#5 data))

/-- `RD_UNKNOWN@0x0D` (R111): read of code 0x0D, default class `C_UNKNOWN`. -/
def execRdUnknown0D (data : Half) (s : State) : Host.Outcome State Fault Refusal :=
  inRun s (access (readSample 0x0D#5 data))

/-- `RD_UNKNOWN@0x0F` (R111): read of code 0x0F, default class `C_UNKNOWN`. -/
def execRdUnknown0F (data : Half) (s : State) : Host.Outcome State Fault Refusal :=
  inRun s (access (readSample 0x0F#5 data))

/-- `RD_UNKNOWN@0x18` (R111): read of code 0x18, default class `C_UNKNOWN`. -/
def execRdUnknown18 (data : Half) (s : State) : Host.Outcome State Fault Refusal :=
  inRun s (access (readSample 0x18#5 data))

/-- `RD_UNKNOWN@0x19` (R111): read of code 0x19, default class `C_UNKNOWN`. -/
def execRdUnknown19 (data : Half) (s : State) : Host.Outcome State Fault Refusal :=
  inRun s (access (readSample 0x19#5 data))

/-- `RD_UNKNOWN@0x1A` (R111): read of code 0x1A, default class `C_UNKNOWN`. -/
def execRdUnknown1A (data : Half) (s : State) : Host.Outcome State Fault Refusal :=
  inRun s (access (readSample 0x1A#5 data))

/-- `RD_UNKNOWN@0x1B` (R111): read of code 0x1B, default class `C_UNKNOWN`. -/
def execRdUnknown1B (data : Half) (s : State) : Host.Outcome State Fault Refusal :=
  inRun s (access (readSample 0x1B#5 data))

/-- `RD_UNKNOWN@0x1C` (R111): read of code 0x1C, default class `C_UNKNOWN`. -/
def execRdUnknown1C (data : Half) (s : State) : Host.Outcome State Fault Refusal :=
  inRun s (access (readSample 0x1C#5 data))

/-- `RD_UNKNOWN@0x1D` (R111): read of code 0x1D, default class `C_UNKNOWN`. -/
def execRdUnknown1D (data : Half) (s : State) : Host.Outcome State Fault Refusal :=
  inRun s (access (readSample 0x1D#5 data))

/-- `RD_UNKNOWN@0x1E` (R111): read of code 0x1E, default class `C_UNKNOWN`. -/
def execRdUnknown1E (data : Half) (s : State) : Host.Outcome State Fault Refusal :=
  inRun s (access (readSample 0x1E#5 data))

/-- `RD_UNKNOWN@0x1F` (R111): read of code 0x1F, default class `C_UNKNOWN`. -/
def execRdUnknown1F (data : Half) (s : State) : Host.Outcome State Fault Refusal :=
  inRun s (access (readSample 0x1F#5 data))

/-- `WR_UNKNOWN@0x00` (R112): write of code 0x00, default class `C_UNKNOWN`. -/
def execWrUnknown00 (data : Half) (s : State) : Host.Outcome State Fault Refusal :=
  inRun s (access (writeSample 0x00#5 data))

/-- `WR_UNKNOWN@0x01` (R112): write of code 0x01, default class `C_UNKNOWN`. -/
def execWrUnknown01 (data : Half) (s : State) : Host.Outcome State Fault Refusal :=
  inRun s (access (writeSample 0x01#5 data))

/-- `WR_UNKNOWN@0x02` (R112): write of code 0x02, default class `C_UNKNOWN`. -/
def execWrUnknown02 (data : Half) (s : State) : Host.Outcome State Fault Refusal :=
  inRun s (access (writeSample 0x02#5 data))

/-- `WR_UNKNOWN@0x03` (R112): write of code 0x03, default class `C_UNKNOWN`. -/
def execWrUnknown03 (data : Half) (s : State) : Host.Outcome State Fault Refusal :=
  inRun s (access (writeSample 0x03#5 data))

/-- `WR_UNKNOWN@0x04` (R112): write of code 0x04, default class `C_UNKNOWN`. -/
def execWrUnknown04 (data : Half) (s : State) : Host.Outcome State Fault Refusal :=
  inRun s (access (writeSample 0x04#5 data))

/-- `WR_UNKNOWN@0x05` (R112): write of code 0x05, default class `C_UNKNOWN`. -/
def execWrUnknown05 (data : Half) (s : State) : Host.Outcome State Fault Refusal :=
  inRun s (access (writeSample 0x05#5 data))

/-- `WR_UNKNOWN@0x06` (R112): write of code 0x06, default class `C_UNKNOWN`. -/
def execWrUnknown06 (data : Half) (s : State) : Host.Outcome State Fault Refusal :=
  inRun s (access (writeSample 0x06#5 data))

/-- `WR_UNKNOWN@0x07` (R112): write of code 0x07, default class `C_UNKNOWN`. -/
def execWrUnknown07 (data : Half) (s : State) : Host.Outcome State Fault Refusal :=
  inRun s (access (writeSample 0x07#5 data))

/-- `WR_UNKNOWN@0x08` (R112): write of code 0x08, default class `C_UNKNOWN`. -/
def execWrUnknown08 (data : Half) (s : State) : Host.Outcome State Fault Refusal :=
  inRun s (access (writeSample 0x08#5 data))

/-- `WR_UNKNOWN@0x09` (R112): write of code 0x09, default class `C_UNKNOWN`. -/
def execWrUnknown09 (data : Half) (s : State) : Host.Outcome State Fault Refusal :=
  inRun s (access (writeSample 0x09#5 data))

/-- `WR_UNKNOWN@0x0A` (R112): write of code 0x0A, default class `C_UNKNOWN`. -/
def execWrUnknown0A (data : Half) (s : State) : Host.Outcome State Fault Refusal :=
  inRun s (access (writeSample 0x0A#5 data))

/-- `WR_UNKNOWN@0x0B` (R112): write of code 0x0B, default class `C_UNKNOWN`. -/
def execWrUnknown0B (data : Half) (s : State) : Host.Outcome State Fault Refusal :=
  inRun s (access (writeSample 0x0B#5 data))

/-- `WR_UNKNOWN@0x0C` (R112): write of code 0x0C, default class `C_UNKNOWN`. -/
def execWrUnknown0C (data : Half) (s : State) : Host.Outcome State Fault Refusal :=
  inRun s (access (writeSample 0x0C#5 data))

/-- `WR_UNKNOWN@0x0D` (R112): write of code 0x0D, default class `C_UNKNOWN`. -/
def execWrUnknown0D (data : Half) (s : State) : Host.Outcome State Fault Refusal :=
  inRun s (access (writeSample 0x0D#5 data))

/-- `WR_UNKNOWN@0x0F` (R112): write of code 0x0F, default class `C_UNKNOWN`. -/
def execWrUnknown0F (data : Half) (s : State) : Host.Outcome State Fault Refusal :=
  inRun s (access (writeSample 0x0F#5 data))

/-- `WR_UNKNOWN@0x18` (R112): write of code 0x18, default class `C_UNKNOWN`. -/
def execWrUnknown18 (data : Half) (s : State) : Host.Outcome State Fault Refusal :=
  inRun s (access (writeSample 0x18#5 data))

/-- `WR_UNKNOWN@0x19` (R112): write of code 0x19, default class `C_UNKNOWN`. -/
def execWrUnknown19 (data : Half) (s : State) : Host.Outcome State Fault Refusal :=
  inRun s (access (writeSample 0x19#5 data))

/-- `WR_UNKNOWN@0x1A` (R112): write of code 0x1A, default class `C_UNKNOWN`. -/
def execWrUnknown1A (data : Half) (s : State) : Host.Outcome State Fault Refusal :=
  inRun s (access (writeSample 0x1A#5 data))

/-- `WR_UNKNOWN@0x1B` (R112): write of code 0x1B, default class `C_UNKNOWN`. -/
def execWrUnknown1B (data : Half) (s : State) : Host.Outcome State Fault Refusal :=
  inRun s (access (writeSample 0x1B#5 data))

/-- `WR_UNKNOWN@0x1C` (R112): write of code 0x1C, default class `C_UNKNOWN`. -/
def execWrUnknown1C (data : Half) (s : State) : Host.Outcome State Fault Refusal :=
  inRun s (access (writeSample 0x1C#5 data))

/-- `WR_UNKNOWN@0x1D` (R112): write of code 0x1D, default class `C_UNKNOWN`. -/
def execWrUnknown1D (data : Half) (s : State) : Host.Outcome State Fault Refusal :=
  inRun s (access (writeSample 0x1D#5 data))

/-- `WR_UNKNOWN@0x1E` (R112): write of code 0x1E, default class `C_UNKNOWN`. -/
def execWrUnknown1E (data : Half) (s : State) : Host.Outcome State Fault Refusal :=
  inRun s (access (writeSample 0x1E#5 data))

/-- `WR_UNKNOWN@0x1F` (R112): write of code 0x1F, default class `C_UNKNOWN`. -/
def execWrUnknown1F (data : Half) (s : State) : Host.Outcome State Fault Refusal :=
  inRun s (access (writeSample 0x1F#5 data))

end Sys2Proof.Machine
end

