-- ==== Sys2Proof/Machine/Dispatch.lean ====
section
/-! DEFINITION. One arm per instruction, each one call of its meaning. -/

namespace Sys2Proof.Machine

def exec (i : Instr) (s : State) : Host.Outcome State Fault Refusal :=
  match i with
  | .framingFe0 address data => Sys2Proof.Machine.execFramingFe0 address data s
  | .framingFe1 address data => Sys2Proof.Machine.execFramingFe1 address data s
  | .rdUnknown00 data => Sys2Proof.Machine.execRdUnknown00 data s
  | .rdUnknown01 data => Sys2Proof.Machine.execRdUnknown01 data s
  | .rdUnknown02 data => Sys2Proof.Machine.execRdUnknown02 data s
  | .rdUnknown03 data => Sys2Proof.Machine.execRdUnknown03 data s
  | .rdUnknown04 data => Sys2Proof.Machine.execRdUnknown04 data s
  | .rdUnknown05 data => Sys2Proof.Machine.execRdUnknown05 data s
  | .rdUnknown06 data => Sys2Proof.Machine.execRdUnknown06 data s
  | .rdUnknown07 data => Sys2Proof.Machine.execRdUnknown07 data s
  | .rdUnknown08 data => Sys2Proof.Machine.execRdUnknown08 data s
  | .rdUnknown09 data => Sys2Proof.Machine.execRdUnknown09 data s
  | .rdUnknown0A data => Sys2Proof.Machine.execRdUnknown0A data s
  | .rdUnknown0B data => Sys2Proof.Machine.execRdUnknown0B data s
  | .rdUnknown0C data => Sys2Proof.Machine.execRdUnknown0C data s
  | .rdUnknown0D data => Sys2Proof.Machine.execRdUnknown0D data s
  | .rdAltStatus data => Sys2Proof.Machine.execRdAltStatus data s
  | .rdUnknown0F data => Sys2Proof.Machine.execRdUnknown0F data s
  | .rdData data => Sys2Proof.Machine.execRdData data s
  | .rdError data => Sys2Proof.Machine.execRdError data s
  | .rdSectorCount data => Sys2Proof.Machine.execRdSectorCount data s
  | .rdLbaLow data => Sys2Proof.Machine.execRdLbaLow data s
  | .rdLbaMid data => Sys2Proof.Machine.execRdLbaMid data s
  | .rdLbaHigh data => Sys2Proof.Machine.execRdLbaHigh data s
  | .rdDevice data => Sys2Proof.Machine.execRdDevice data s
  | .rdStatus data => Sys2Proof.Machine.execRdStatus data s
  | .rdUnknown18 data => Sys2Proof.Machine.execRdUnknown18 data s
  | .rdUnknown19 data => Sys2Proof.Machine.execRdUnknown19 data s
  | .rdUnknown1A data => Sys2Proof.Machine.execRdUnknown1A data s
  | .rdUnknown1B data => Sys2Proof.Machine.execRdUnknown1B data s
  | .rdUnknown1C data => Sys2Proof.Machine.execRdUnknown1C data s
  | .rdUnknown1D data => Sys2Proof.Machine.execRdUnknown1D data s
  | .rdUnknown1E data => Sys2Proof.Machine.execRdUnknown1E data s
  | .rdUnknown1F data => Sys2Proof.Machine.execRdUnknown1F data s
  | .wrUnknown00 data => Sys2Proof.Machine.execWrUnknown00 data s
  | .wrUnknown01 data => Sys2Proof.Machine.execWrUnknown01 data s
  | .wrUnknown02 data => Sys2Proof.Machine.execWrUnknown02 data s
  | .wrUnknown03 data => Sys2Proof.Machine.execWrUnknown03 data s
  | .wrUnknown04 data => Sys2Proof.Machine.execWrUnknown04 data s
  | .wrUnknown05 data => Sys2Proof.Machine.execWrUnknown05 data s
  | .wrUnknown06 data => Sys2Proof.Machine.execWrUnknown06 data s
  | .wrUnknown07 data => Sys2Proof.Machine.execWrUnknown07 data s
  | .wrUnknown08 data => Sys2Proof.Machine.execWrUnknown08 data s
  | .wrUnknown09 data => Sys2Proof.Machine.execWrUnknown09 data s
  | .wrUnknown0A data => Sys2Proof.Machine.execWrUnknown0A data s
  | .wrUnknown0B data => Sys2Proof.Machine.execWrUnknown0B data s
  | .wrUnknown0C data => Sys2Proof.Machine.execWrUnknown0C data s
  | .wrUnknown0D data => Sys2Proof.Machine.execWrUnknown0D data s
  | .wrDeviceControl data => Sys2Proof.Machine.execWrDeviceControl data s
  | .wrUnknown0F data => Sys2Proof.Machine.execWrUnknown0F data s
  | .wrData data => Sys2Proof.Machine.execWrData data s
  | .wrFeatures data => Sys2Proof.Machine.execWrFeatures data s
  | .wrSectorCount data => Sys2Proof.Machine.execWrSectorCount data s
  | .wrLbaLow data => Sys2Proof.Machine.execWrLbaLow data s
  | .wrLbaMid data => Sys2Proof.Machine.execWrLbaMid data s
  | .wrLbaHigh data => Sys2Proof.Machine.execWrLbaHigh data s
  | .wrDevice data => Sys2Proof.Machine.execWrDevice data s
  | .wrCommand data => Sys2Proof.Machine.execWrCommand data s
  | .wrUnknown18 data => Sys2Proof.Machine.execWrUnknown18 data s
  | .wrUnknown19 data => Sys2Proof.Machine.execWrUnknown19 data s
  | .wrUnknown1A data => Sys2Proof.Machine.execWrUnknown1A data s
  | .wrUnknown1B data => Sys2Proof.Machine.execWrUnknown1B data s
  | .wrUnknown1C data => Sys2Proof.Machine.execWrUnknown1C data s
  | .wrUnknown1D data => Sys2Proof.Machine.execWrUnknown1D data s
  | .wrUnknown1E data => Sys2Proof.Machine.execWrUnknown1E data s
  | .wrUnknown1F data => Sys2Proof.Machine.execWrUnknown1F data s

end Sys2Proof.Machine
end

