-- ==== Sys2Proof/Machine/Step.lean ====
section
/-! DEFINITION. One step of the decoder (46_decoder_step.md R114), and how a program is placed for it. -/

namespace Sys2Proof.Machine

/-- `step(S, nextItem(SRC, S.idx))` (46_decoder_step.md R114, R115): one item is fetched and consumed.
Outside `RUN` no step exists (R118). -/
def step (s : State) : Host.Outcome State Fault Refusal :=
  match s.phase with
  | .run =>
    match nextItem s.src s.idx with
    | some (.record i) => exec i s
    | some .endOfStore => inRun s endOfInput
    | some (.tail k) => inRun s (truncated k)
    | none => .fault .storeOverrun
  | .done => .fault .passOver
  | .failed => .fault .passOver

/-- The state with the record of bits `w` (those above `nbits` zero) stored where the next step
fetches, at bytes `4*idx .. 4*idx+3`, the store extended to hold it (log 1). -/
def State.withFetchWord (s : State) (nbits w : Nat) : State :=
  { s with src := s.src.writeBytes (4 * s.idx) (wordBytes (BitVec.ofNat 32 (w % 2 ^ nbits))) }

end Sys2Proof.Machine
end

