-- ==== Sys2Proof/Machine/Assembly.lean ====
section
/-! DEFINITION. The textual notation for samples (30_encoding.md R46): the lines of the notation, what a
line stands for under a given `ADDR_MAP`, and the reading of a line's text. Reserved bits are assembled
as 0; there are no pseudo-instructions. -/

namespace Sys2Proof.Machine

/-- A line: a read or write of a register (named, or a raw code written `.unknown a`), or a framing
error with both strobes 0 or both 1 (30_encoding.md R46). -/
inductive AsmLine where
  | rd (reg : RegName) (data : Half)
  | wr (reg : RegName) (data : Half)
  | fe0 (address : AddrCode) (data : Half)
  | fe1 (address : AddrCode) (data : Half)
  deriving DecidableEq, Repr

/-- The class a register name belongs to; the two names of a pair share one (30_encoding.md R46). -/
def classOfName : RegName → RegClass
  | .data => .cData
  | .error => .cErr
  | .features => .cErr
  | .sectorCount => .cScnt
  | .lbaLow => .cLbal
  | .lbaMid => .cLbam
  | .lbaHigh => .cLbah
  | .device => .cDev
  | .status => .cStat
  | .command => .cStat
  | .altStatus => .cAlt
  | .deviceControl => .cAlt
  | .unknown _ => .cUnknown

/-- "A `regname` stands for the address code that `ADDR_MAP` assigns to its class", a raw code for
itself (30_encoding.md R46). Under a map that breaks 40_register_map.md R58 no name stands for a code:
93 U12 refuses such a map to the notation. Under any other the class has exactly one code, and the
first found is the only one. That a raw code, which no map is asked about, stays usable is DEDUCED,
safe (log 17). -/
def codeOfName (p : Params) : RegName → Option AddrCode
  | .unknown a => some a
  | n =>
    if p.wellFormed then
      (p.addrMap.toList.idxOf? (classOfName n)).map fun k => BitVec.ofNat 5 k
    else none

/-- The sample of a line. Either name of a pair may be written with either direction. -/
def assembleSample (p : Params) : AsmLine → Option Sample
  | .rd n d => (codeOfName p n).map fun a => readSample a d
  | .wr n d => (codeOfName p n).map fun a => writeSample a d
  | .fe0 a d => some { data := d, address := a, dior := 0#1, diow := 0#1 }
  | .fe1 a d => some { data := d, address := a, dior := 1#1, diow := 1#1 }

/-- The record word of a line (30_encoding.md R46). -/
def assemble (p : Params) (l : AsmLine) : Option Word := (assembleSample p l).map encodeSample

/-! ### The text of a line

What the grammar leaves unsaid (any number of spaces between tokens, digits of either case, leading
zeros at will, a `0x` before every number) is log 15. -/

/-- The value of a hexadecimal digit. -/
def hexDigit (c : Char) : Option Nat :=
  if '0' ≤ c && c ≤ '9' then some (c.toNat - '0'.toNat)
  else if 'A' ≤ c && c ≤ 'F' then some (c.toNat - 'A'.toNat + 10)
  else if 'a' ≤ c && c ≤ 'f' then some (c.toNat - 'a'.toNat + 10)
  else none

/-- The value of a string of hexadecimal digits after the value `acc` of those read before. -/
def hexDigits (acc : Nat) : List Char → Option Nat
  | [] => some acc
  | c :: cs => (hexDigit c).bind fun d => hexDigits (16 * acc + d) cs

/-- `hex`: `0x` and at least one digit (30_encoding.md R46). -/
def readHex : List Char → Option Nat
  | '0' :: 'x' :: d :: ds => hexDigits 0 (d :: ds)
  | _ => none

/-- `data`: a 16-bit value, `0x0000 .. 0xFFFF`. -/
def readData (t : List Char) : Option Half :=
  (readHex t).bind fun n => if n < 2 ^ 16 then some (BitVec.ofNat 16 n) else none

/-- `addr`: `@` and a raw 5-bit code, `0x00 .. 0x1F`. -/
def readAddr : List Char → Option AddrCode
  | '@' :: t => (readHex t).bind fun n => if n < 2 ^ 5 then some (BitVec.ofNat 5 n) else none
  | _ => none

/-- The twelve `regname`s. -/
def regNameWords : List (String × RegName) := [
  ("DATA", .data), ("ERROR", .error), ("FEATURES", .features), ("SECTOR_COUNT", .sectorCount),
  ("LBA_LOW", .lbaLow), ("LBA_MID", .lbaMid), ("LBA_HIGH", .lbaHigh), ("DEVICE", .device),
  ("STATUS", .status), ("COMMAND", .command), ("ALT_STATUS", .altStatus),
  ("DEVICE_CONTROL", .deviceControl)]

/-- `reg`: a `regname` or an `addr`. -/
def readReg (t : List Char) : Option RegName :=
  match readAddr t with
  | some a => some (.unknown a)
  | none => regNameWords.lookup (String.ofList t)

/-- Put a token in front, unless it is empty. -/
def consToken (t : List Char) (ts : List (List Char)) : List (List Char) :=
  if t.isEmpty then ts else t :: ts

/-- The tokens of a line: spaces separate, a comma is a token of its own. -/
def lineTokens (line : List Char) : List (List Char) :=
  let r := line.foldr
    (fun c (r : List Char × List (List Char)) =>
      if c = ' ' then ([], consToken r.1 r.2)
      else if c = ',' then ([], [','] :: consToken r.1 r.2)
      else (c :: r.1, r.2))
    ([], [])
  consToken r.1 r.2

/-- `sample` of the grammar; `none` for a text that is no line of it. -/
def readLine (line : List Char) : Option AsmLine :=
  match lineTokens line with
  | [m, r, [','], d] =>
    (readData d).bind fun d =>
      match String.ofList m with
      | "RD" => (readReg r).map fun n => .rd n d
      | "WR" => (readReg r).map fun n => .wr n d
      | "FE0" => (readAddr r).map fun a => .fe0 a d
      | "FE1" => (readAddr r).map fun a => .fe1 a d
      | _ => none
  | _ => none

end Sys2Proof.Machine
end

