-- ==== Sys2Proof/Safety.lean ====
section
/-! DEFINITION. The terms in which claims are stated: the store read as a sequence of samples, what a pass
over it must have seen and emitted after its first `n` records (a description from the store alone, with
no carry-over state), the invariants of a pass, the order of the output, and how a run ends. -/

namespace Sys2Proof.Safety

open Sys2Proof.Machine

/-! ### The store as samples -/

/-- The word of record `i` (20_memory.md R24). -/
def recordWord (m : Memory) (i : Nat) : Word :=
  le32 (m.byteAt (4 * i)) (m.byteAt (4 * i + 1)) (m.byteAt (4 * i + 2)) (m.byteAt (4 * i + 3))

/-- The sample of record `i`. -/
def sampleAt (m : Memory) (i : Nat) : Sample := decodeSample (recordWord m i)

/-- The sample class of record `i` (30_encoding.md R45). -/
def classAt (m : Memory) (p : Params) (i : Nat) : SampleClass := classify p (sampleAt m i)

/-- Record `i` is a framing error (42_framing_direction_annotation.md R67). -/
def framingAt (m : Memory) (i : Nat) : Bool := isFraming (sampleAt m i)

/-- Record `i` is a DATA sample, in either direction (44_data_burst.md R80). -/
def dataAt (m : Memory) (p : Params) (i : Nat) : Bool :=
  classAt m p i == .access true .cData || classAt m p i == .access false .cData

/-- Record `i` is a non-framing read of class `c`. -/
def readAt (m : Memory) (p : Params) (c : RegClass) (i : Nat) : Bool :=
  classAt m p i == .access true c

/-- Record `i` is a suppressed duplicate, said of the two records `i - 1` and `i` alone: "both
non-framing reads of the same class in C_STAT, C_ALT with equal `data`"
(43_duplicate_suppression.md R79 (b)). -/
def suppressedAt (m : Memory) (p : Params) (i : Nat) : Bool :=
  1 ≤ i &&
    ((readAt m p .cStat (i - 1) && readAt m p .cStat i) ||
      (readAt m p .cAlt (i - 1) && readAt m p .cAlt i)) &&
    (sampleAt m (i - 1)).data == (sampleAt m i).data

/-! ### What a pass has seen after `n` records -/

/-- The indices below `n` of the non-framing reads of class `c`, in order. -/
def readsBelow (m : Memory) (p : Params) (c : RegClass) (n : Nat) : List Nat :=
  (List.range n).filter (readAt m p c)

/-- The tracker of class `c` after `n` records: the most recent read of the register
(10_state.md R15). -/
def lastRead (m : Memory) (p : Params) (c : RegClass) (n : Nat) : Option Tracker :=
  (readsBelow m p c n).getLast?.map fun i => { lastIdx := i, lastData := (sampleAt m i).data }

/-- The indices below `n` of the records that passed the framing check, in order. -/
def accessesBelow (m : Memory) (n : Nat) : List Nat :=
  (List.range n).filter fun i => !framingAt m i

/-- The run of DATA samples still open after `n` records: the longest run at the end of the non-framing
records (44_data_burst.md R80). -/
def openRun (m : Memory) (p : Params) (n : Nat) : List Nat :=
  ((accessesBelow m n).reverse.takeWhile (dataAt m p)).reverse

/-- The burst of a run of records: start and direction from the first, the data of all
(44_data_burst.md R81, R82, R88). -/
def burstOf (m : Memory) : List Nat → Option Burst
  | [] => none
  | i :: is => some
      { start := i
        isRead := isReadSample (sampleAt m i)
        buf := (i :: is).map fun j => (sampleAt m j).data }

/-- The burst open after `n` records. -/
def openBurst (m : Memory) (p : Params) (n : Nat) : Option Burst := burstOf m (openRun m p n)

/-- The frame of a burst, if there is one (44_data_burst.md R84). -/
def burstFrames (b : Option Burst) : List Frame := b.toList.map closeBurst

/-- The frame of a register access with the fields that index and data fix (30_encoding.md R40). -/
def line (i : Nat) (d : Half) (isRead : Bool) (reg : RegName) (ann : Annotation) (cat : Category) :
    Frame :=
  .fReg { idx := i, lo := lo8 d, ascii := asc (lo8 d), isRead := isRead, reg := reg, ann := ann,
          cat := cat }

/-- The frames record `i` causes, said from the store alone (46_decoder_step.md R114). -/
def framesAt (m : Memory) (p : Params) (i : Nat) : List Frame :=
  match classAt m p i with
  | .framing => [.fFraming { idx := i, sample := sampleAt m i, cat := .catError }]
  | .access _ .cData => []
  | .access isRead _ =>
    burstFrames (openBurst m p i) ++
      (if suppressedAt m p i then [] else [.fReg (regFrame p (sampleAt m i) isRead i)])

/-- The frames of the first `n` records. -/
def framesBelow (m : Memory) (p : Params) (n : Nat) : List Frame :=
  (List.range n).flatMap (framesAt m p)

/-! ### Invariants of a pass -/

/-- What holds of a state reached from the start of a pass, said of the consumed records
(46_decoder_step.md R124 (a) to (d), (f); 10_state.md R14 to R17). -/
structure Inv (s : State) : Prop where
  /-- The store is in canonical form. -/
  store : s.src.wf
  /-- No record beyond the end has been consumed (46_decoder_step.md R120). -/
  within : 4 * s.idx ≤ s.src.len
  /-- `trkS` is the most recent STATUS read. -/
  trkS : s.trkS = lastRead s.src s.params .cStat s.idx
  /-- `trkA` is the most recent ALT_STATUS read. -/
  trkA : s.trkA = lastRead s.src s.params .cAlt s.idx
  /-- While the pass runs, `burst` is the run of DATA samples still open. -/
  burstRun : s.phase = .run → s.burst = openBurst s.src s.params s.idx
  /-- `DONE`: the input ended on a boundary, with nothing left open. -/
  atDone : s.phase = .done → s.burst = none ∧ s.src.len = 4 * s.idx
  /-- `FAILED`: 1 to 3 bytes were left; an open burst is kept unless it was to be flushed. -/
  atFailed : s.phase = .failed →
    4 * s.idx < s.src.len ∧ s.src.len < 4 * s.idx + 4 ∧
      s.burst = if s.params.flushOnTruncation then none else openBurst s.src s.params s.idx

/-- The output the consumed records and the end of the pass account for (46_decoder_step.md R116, R117,
R124 (e)). -/
def expectedOut (s : State) : List Frame :=
  framesBelow s.src s.params s.idx ++
    match s.phase with
    | .run => []
    | .done => burstFrames (openBurst s.src s.params s.idx)
    | .failed =>
      (if s.params.flushOnTruncation then burstFrames (openBurst s.src s.params s.idx) else []) ++
        [.fIoErr { idx := s.idx, strayBytes := s.src.len - 4 * s.idx, cat := .catError }]

/-! ### Order of the output -/

/-- Frame `f` may stand before frame `g` (46_decoder_step.md R123): nothing follows an `F_IOERR`; the
keys rise, but for an `F_FRAMING` that fell inside the run of an `F_BURST` after it. -/
def mayPrecede (f g : Frame) : Prop :=
  match f, g with
  | .fIoErr _, _ => False
  | .fFraming a, .fBurst b => a.idx ≠ b.start
  | f, g => f.key < g.key

/-- The frame is an `F_FRAMING`. -/
def isFramingFrame : Frame → Bool
  | .fFraming _ => true
  | _ => false

/-- The frame is an `F_IOERR`. -/
def isIoErrFrame : Frame → Bool
  | .fIoErr _ => true
  | _ => false

/-- The output is in the order of 46_decoder_step.md R123, with what a step needs to keep it so. -/
structure Ordered (s : State) : Prop where
  /-- Every two frames of the output, the earlier first. -/
  pairs : s.out.Pairwise mayPrecede
  /-- Every frame but an `F_IOERR` is of a consumed record. -/
  below : ∀ f ∈ s.out, isIoErrFrame f = false → f.key < s.idx
  /-- An `F_IOERR` names the position after the last record and comes only with `FAILED`. -/
  ioErr : ∀ f ∈ s.out, isIoErrFrame f = true → f.key = s.idx ∧ s.phase = .failed
  /-- An open burst started before `idx`, after every frame but framing errors inside its run. -/
  opened : ∀ b, s.burst = some b →
    b.start < s.idx ∧
      ∀ f ∈ s.out, isIoErrFrame f = false →
        (isFramingFrame f = false → f.key < b.start) ∧ f.key ≠ b.start

/-! ### Counting -/

/-- The `F_REG` frames of an output. -/
def regCount (out : List Frame) : Nat := out.countP fun f => f.kindCode == 0

/-- The `F_FRAMING` frames of an output. -/
def framingCount (out : List Frame) : Nat := out.countP fun f => f.kindCode == 2

/-- The bytes the bursts of an output report. -/
def burstBytes (out : List Frame) : Nat :=
  (out.map fun f => match f with
    | .fBurst b => b.byteLen
    | _ => 0).sum

/-- The suppressed duplicates among the first `n` records. -/
def suppressedCount (m : Memory) (p : Params) (n : Nat) : Nat :=
  (List.range n).countP (suppressedAt m p)

/-! ### Runs -/

/-- The records of a list offered one after the other (46_decoder_step.md R113). -/
def runInstrs : List Instr → State → Host.Outcome State Fault Refusal
  | [], s => .next s
  | i :: is, s =>
    match exec i s with
    | .next t => runInstrs is t
    | .fault r => .fault r
    | .refused r => .refused r

/-- The instruction is a DATA access under `p`, in either direction (44_data_burst.md R80). -/
def isDataInstr (p : Params) (i : Instr) : Bool :=
  classify p i.sample == .access true .cData || classify p i.sample == .access false .cData

/-- The instruction is a non-framing access to a register other than DATA. -/
def isRegInstr (p : Params) (i : Instr) : Bool :=
  !isFraming i.sample && classOf p i.sample.address != .cData

/-- A run ends well exactly in `DONE` (70_reset_and_hazards.md R178). -/
def EndedWell (s : State) : Prop := s.phase = .done

/-- A run ends badly exactly in `FAILED` (70_reset_and_hazards.md R178). -/
def EndedBadly (s : State) : Prop := s.phase = .failed

/-- Two stores agree on their first `n` bytes, which both have (46_decoder_step.md R119). -/
def agreeBelow (n : Nat) (m m' : Memory) : Prop :=
  n ≤ m.len ∧ n ≤ m'.len ∧ ∀ a, a < n → m.byteAt a = m'.byteAt a

/-! ### Rows of the opcode table grouped for statements -/

/-- A read or write row with the class the default map gives its code. -/
structure AccessRow where
  ctor : Half → Instr
  code : AddrCode
  matchWord : Word
  isRead : Bool
  cls : RegClass
  reg : RegName

/-- The rows of 45_sample_classes.md R97 to R106, in that order. -/
def taskFileRows : List AccessRow := [
  ⟨.rdSectorCount, 0x12#5, 0x02120000#32, true, .cScnt, .sectorCount⟩,
  ⟨.wrSectorCount, 0x12#5, 0x01120000#32, false, .cScnt, .sectorCount⟩,
  ⟨.rdLbaLow, 0x13#5, 0x02130000#32, true, .cLbal, .lbaLow⟩,
  ⟨.wrLbaLow, 0x13#5, 0x01130000#32, false, .cLbal, .lbaLow⟩,
  ⟨.rdLbaMid, 0x14#5, 0x02140000#32, true, .cLbam, .lbaMid⟩,
  ⟨.wrLbaMid, 0x14#5, 0x01140000#32, false, .cLbam, .lbaMid⟩,
  ⟨.rdLbaHigh, 0x15#5, 0x02150000#32, true, .cLbah, .lbaHigh⟩,
  ⟨.wrLbaHigh, 0x15#5, 0x01150000#32, false, .cLbah, .lbaHigh⟩,
  ⟨.rdDevice, 0x16#5, 0x02160000#32, true, .cDev, .device⟩,
  ⟨.wrDevice, 0x16#5, 0x01160000#32, false, .cDev, .device⟩]

/-- The 23 rows of 45_sample_classes.md R111: (read row, address code). -/
def unknownReadRows : List ((Half → Instr) × AddrCode) := [
  (.rdUnknown00, 0x00#5), (.rdUnknown01, 0x01#5), (.rdUnknown02, 0x02#5),
  (.rdUnknown03, 0x03#5), (.rdUnknown04, 0x04#5), (.rdUnknown05, 0x05#5),
  (.rdUnknown06, 0x06#5), (.rdUnknown07, 0x07#5), (.rdUnknown08, 0x08#5),
  (.rdUnknown09, 0x09#5), (.rdUnknown0A, 0x0A#5), (.rdUnknown0B, 0x0B#5),
  (.rdUnknown0C, 0x0C#5), (.rdUnknown0D, 0x0D#5), (.rdUnknown0F, 0x0F#5),
  (.rdUnknown18, 0x18#5), (.rdUnknown19, 0x19#5), (.rdUnknown1A, 0x1A#5),
  (.rdUnknown1B, 0x1B#5), (.rdUnknown1C, 0x1C#5), (.rdUnknown1D, 0x1D#5),
  (.rdUnknown1E, 0x1E#5), (.rdUnknown1F, 0x1F#5)]

/-- The 23 rows of 45_sample_classes.md R112: (write row, address code). -/
def unknownWriteRows : List ((Half → Instr) × AddrCode) := [
  (.wrUnknown00, 0x00#5), (.wrUnknown01, 0x01#5), (.wrUnknown02, 0x02#5),
  (.wrUnknown03, 0x03#5), (.wrUnknown04, 0x04#5), (.wrUnknown05, 0x05#5),
  (.wrUnknown06, 0x06#5), (.wrUnknown07, 0x07#5), (.wrUnknown08, 0x08#5),
  (.wrUnknown09, 0x09#5), (.wrUnknown0A, 0x0A#5), (.wrUnknown0B, 0x0B#5),
  (.wrUnknown0C, 0x0C#5), (.wrUnknown0D, 0x0D#5), (.wrUnknown0F, 0x0F#5),
  (.wrUnknown18, 0x18#5), (.wrUnknown19, 0x19#5), (.wrUnknown1A, 0x1A#5),
  (.wrUnknown1B, 0x1B#5), (.wrUnknown1C, 0x1C#5), (.wrUnknown1D, 0x1D#5),
  (.wrUnknown1E, 0x1E#5), (.wrUnknown1F, 0x1F#5)]
end Sys2Proof.Safety
end

