-- ==== Sys2Proof/Certificates/Slice0/Obligations.lean ====
section
/-! DEFINITION. The statements for the provers. Each docstring names the rule of spec/ it formalises. A
read or write row is stated for every `ADDR_MAP` that gives its code the class in question, so no
statement rests on the default codes of 40_register_map.md R48 (log 3, log 4). -/

open Sys2Proof Sys2Proof.Machine Sys2Proof.Safety

/-! ### Encoding -/

/-- 41_sample_codec.md R63 for instructions: decoding the record of any instruction, with anything after
it, gives that instruction and what is after it. -/
def Obligations.DecodeEncodeAgree : Prop :=
  ∀ (i : Instr) (rest : List Byte), decode (encode i ++ rest) = .ok (i, rest)

/-- 41_sample_codec.md R63: decoding the encoding of a sample gives the sample, for all 2^23 samples; and
the four bytes in between, lowest address first, are the base-256 digits of the word, least first
(20_memory.md R23), so they read back as it. -/
def Obligations.SampleRoundTrip : Prop :=
  (∀ s : Sample, decodeSample (encodeSample s) = s) ∧
    ∀ w : Word, ∃ b0 b1 b2 b3 : Byte, wordBytes w = [b0, b1, b2, b3] ∧ le32 b0 b1 b2 b3 = w ∧
      w.toNat = b0.toNat + 2 ^ 8 * b1.toNat + 2 ^ 16 * b2.toNat + 2 ^ 24 * b3.toNat

/-- 41_sample_codec.md R64: the other direction holds up to the reserved bits, and two words decode to
equal samples exactly if they agree under the mask. -/
def Obligations.EncodeDecodeClearsReservedBits : Prop :=
  (∀ w : Word, encodeSample (decodeSample w) = w &&& 0x031FFFFF#32) ∧
    ∀ w w' : Word, decodeSample w = decodeSample w' ↔ w &&& 0x031FFFFF#32 = w' &&& 0x031FFFFF#32

/-- 41_sample_codec.md R61 and 30_encoding.md R36: the four fields of a record as arithmetic on the
bytes in store order (46_decoder_step.md R120), with the reserved bits of bytes 2 and 3 left out. -/
def Obligations.FieldsOfRecordBytes : Prop :=
  ∀ b0 b1 b2 b3 : Byte,
    let s := decodeSample (le32 b0 b1 b2 b3)
    s.data.toNat = b0.toNat + 256 * b1.toNat ∧
      s.address.toNat = b2.toNat % 32 ∧
      s.dior.toNat = b3.toNat % 2 ∧
      s.diow.toNat = b3.toNat / 2 % 2

/-- 30_encoding.md R45: the opcode table's rows are disjoint and cover every word, and decoding selects
the row the word belongs to. -/
def Obligations.EveryWordHasOneRow : Prop :=
  ∀ w : Word,
    (opcodeTable.filter fun r => w &&& r.mask == r.matchWord) = [(decodeWord w).row]

/-- Words written out from the encodings of 45_sample_classes.md decode to their rows (R92, R93, R99,
R107, R108, R109, R111), one with reserved bits set. -/
def Obligations.WrittenOutWordsDecode : Prop :=
  decodeWord 0x03102222#32 = .framingFe1 0x10#5 0x2222#16 ∧
    decodeWord 0x02101234#32 = .rdData 0x1234#16 ∧
    decodeWord 0x02130041#32 = .rdLbaLow 0x0041#16 ∧
    decodeWord 0xFEF70050#32 = .rdStatus 0x0050#16 ∧
    decodeWord 0x011700EC#32 = .wrCommand 0x00EC#16 ∧
    decodeWord 0x020E00D0#32 = .rdAltStatus 0x00D0#16 ∧
    decodeWord 0x020F007F#32 = .rdUnknown0F 0x007F#16

/-- 30_encoding.md R46: a line assembles to `data | address << 16 | dior << 24 | diow << 25`, a register
name standing for a code of its class, either name of a pair for the same one. -/
def Obligations.AssembledLineWord : Prop :=
  ∀ (p : Params) (n : RegName) (d : Half) (a : AddrCode), codeOfName p n = some a →
    assemble p (.rd n d) = some (d.setWidth 32 ||| a.setWidth 32 <<< 16 ||| 0x02000000#32) ∧
      assemble p (.wr n d) = some (d.setWidth 32 ||| a.setWidth 32 <<< 16 ||| 0x01000000#32) ∧
      assemble p (.fe0 a d) = some (d.setWidth 32 ||| a.setWidth 32 <<< 16) ∧
      assemble p (.fe1 a d) = some (d.setWidth 32 ||| a.setWidth 32 <<< 16 ||| 0x03000000#32) ∧
      (n ≠ .unknown a → classOf p a = classOfName n)

/-- 40_register_map.md R58 with 30_encoding.md R46: under a well-formed map every name but a raw code
stands for exactly one code, the one whose class is the name's. Under any other map (a known class with
two codes, or with none) no name stands for a code and no line with a name assembles (93 U12). -/
def Obligations.NamesDenoteOneCode : Prop :=
  ∀ (p : Params) (n : RegName), (∀ a, n ≠ .unknown a) →
    (p.wellFormed = true →
      ∃ a, codeOfName p n = some a ∧ ∀ a', classOf p a' = classOfName n ↔ a' = a) ∧
      (p.wellFormed = false → codeOfName p n = none ∧
        ∀ d, assemble p (.rd n d) = none ∧ assemble p (.wr n d) = none)

/-! ### Fetch and step -/

/-- 41_sample_codec.md R65, 20_memory.md R24: the three outcomes of a fetch. That beyond the end there is
no item is the model's (log 8, DEDUCED): 46_decoder_step.md R120 says the position never comes there. -/
def Obligations.NextItemOutcomes : Prop :=
  ∀ (m : Memory) (i : Nat),
    (4 * i + 4 ≤ m.len →
      nextItem m i = some (.record (Instr.ofSample (decodeSample
        (le32 (m.byteAt (4 * i)) (m.byteAt (4 * i + 1)) (m.byteAt (4 * i + 2))
          (m.byteAt (4 * i + 3))))))) ∧
      (m.len = 4 * i → nextItem m i = some .endOfStore) ∧
      (∀ k, 1 ≤ k → k ≤ 3 → m.len = 4 * i + k → nextItem m i = some (.tail k)) ∧
      (m.len < 4 * i → nextItem m i = none)

/-- 70_reset_and_hazards.md R170: the store of a list of instructions is canonical and is fetched as
that list and then the end. -/
def Obligations.StoreOfInstrsIsFetchedInOrder : Prop :=
  ∀ (is : List Instr) (k : Nat), k ≤ is.length →
    (Memory.ofInstrs is).recordCount = is.length ∧
      nextItem (Memory.ofInstrs is) k =
        some (match is[k]? with
          | some i => .record i
          | none => .endOfStore)

/-- A step runs the decoded instruction: when the four bytes at `4*idx` decode to `i`, a step is exactly
`exec i`, which also advances `idx`; a step adds nothing around it (46_decoder_step.md R114). -/
def Obligations.StepRunsTheDecodedRecord : Prop :=
  ∀ (s : State) (bytes : List Byte) (i : Instr),
    s.src.read (4 * s.idx) 4 = some bytes → decode bytes = .ok (i, []) → step s = exec i s

/-- 46_decoder_step.md R114: each record leaves `idx = i + 1` in `RUN`, appends at most two frames, and
changes neither the store nor the parameters. Every one of the 66 rows completes in `RUN`. -/
def Obligations.EveryRecordCompletes : Prop :=
  ∀ (i : Instr) (s : State), s.phase = .run →
    ∃ t fs, exec i s = .next t ∧ t.idx = s.idx + 1 ∧ t.phase = .run ∧ t.out = s.out ++ fs ∧
      fs.length ≤ 2 ∧ t.src = s.src ∧ t.params = s.params

/-- 46_decoder_step.md R116, 44_data_burst.md R87: at the end of the store on a boundary an open burst
is flushed and the pass is `DONE`; nothing else changes. -/
def Obligations.EndOfInputFlushesAndIsDone : Prop :=
  ∀ s : State, s.phase = .run → s.src.len = 4 * s.idx →
    step s = .next { s with burst := none, phase := .done, out := s.out ++ burstFrames s.burst }

/-- 46_decoder_step.md R117, 60_exceptions.md R153: 1 to 3 stray bytes end the pass with an `F_IOERR`
naming the position and their number; an open burst is flushed first exactly if the parameter says so. -/
def Obligations.TruncatedTailFails : Prop :=
  ∀ (s : State) (k : Nat), s.phase = .run → 1 ≤ k → k ≤ 3 → s.src.len = 4 * s.idx + k →
    (s.params.flushOnTruncation = false →
      step s = .next { s with phase := .failed, out := s.out ++
        [.fIoErr { idx := s.idx, strayBytes := k, cat := .catError }] }) ∧
      (s.params.flushOnTruncation = true →
        step s = .next { s with burst := none, phase := .failed, out := s.out ++
          (burstFrames s.burst ++
            [.fIoErr { idx := s.idx, strayBytes := k, cat := .catError }]) })

/-- 46_decoder_step.md R118: in `DONE` and `FAILED` there is no step, no record is consumed, and the way
on is a new invocation, which resets the state. -/
def Obligations.NoStepAfterThePass : Prop :=
  ∀ s : State, s.phase ≠ .run →
    step s = .fault .passOver ∧ (∀ i, exec i s = .fault .passOver) ∧
      startPass (some s.src) s.params = .next
        { s with idx := 0, trkS := none, trkA := none, burst := none, phase := .run, out := [] }

/-- 10_state.md R22: the state at the start of every invocation, for any store and parameters. -/
def Obligations.InvocationStartsFromResetState : Prop :=
  (State.reset.idx = 0 ∧ State.reset.trkS = none ∧ State.reset.trkA = none ∧
      State.reset.burst = none ∧ State.reset.phase = .run ∧ State.reset.out = []) ∧
    ∀ (m : Memory) (p : Params), startPass (some m) p = .next
      { idx := 0, trkS := none, trkA := none, burst := none, phase := .run, out := [],
        src := m, params := p }

/-- 60_exceptions.md R154: with a source that cannot be opened the pass never starts. -/
def Obligations.UnopenableSourceStartsNoPass : Prop :=
  ∀ p : Params, startPass none p = .fault .sourceUnopenable

/-! ### Framing errors -/

/-- 45_sample_classes.md R92: both framing patterns, whatever the address and data: one `F_FRAMING` with
the decoded sample, the index advanced, and nothing else, an open burst and the trackers included. -/
def Obligations.FramingErrorIsReportedOnly : Prop :=
  ∀ (a : AddrCode) (d : Half) (s : State), s.phase = .run →
    (∀ w : Word, w &&& 0x03000000#32 = 0x00000000#32 →
      decodeWord w = .framingFe0 (w.extractLsb' 16 5) (w.extractLsb' 0 16)) ∧
      (∀ w : Word, w &&& 0x03000000#32 = 0x03000000#32 →
        decodeWord w = .framingFe1 (w.extractLsb' 16 5) (w.extractLsb' 0 16)) ∧
      exec (.framingFe0 a d) s = .next { s with idx := s.idx + 1, out := s.out ++
        [.fFraming { idx := s.idx, sample := { data := d, address := a, dior := 0#1, diow := 0#1 },
                     cat := .catError }] } ∧
      exec (.framingFe1 a d) s = .next { s with idx := s.idx + 1, out := s.out ++
        [.fFraming { idx := s.idx, sample := { data := d, address := a, dior := 1#1, diow := 1#1 },
                     cat := .catError }] }

/-- 42_framing_direction_annotation.md R67 (90 C5): an `F_FRAMING` frame for the record's index is
appended if and only if the two strobe bits of its word are equal. -/
def Obligations.FramingFrameIffStrobesEqual : Prop :=
  ∀ (w : Word) (s t : State), exec (decodeWord w) s = .next t →
    ((∃ fs f, t.out = s.out ++ fs ∧ Frame.fFraming f ∈ fs ∧ f.idx = s.idx) ↔
      w.getLsbD 24 = w.getLsbD 25)

/-! ### DATA samples and bursts -/

/-- 45_sample_classes.md R93: `RD_DATA` opens a read burst or is absorbed into the open burst of either
direction; no frame, and nothing else changes. -/
def Obligations.ReadDataIsAbsorbed : Prop :=
  ∀ (d : Half) (s : State), s.phase = .run → classOf s.params 0x10#5 = .cData →
    encodeWord (.rdData d) = 0x02100000#32 ||| d.setWidth 32 ∧
      (s.burst = none → exec (.rdData d) s = .next
        { s with idx := s.idx + 1, burst := some { start := s.idx, isRead := true, buf := [d] } }) ∧
      (∀ b, s.burst = some b → exec (.rdData d) s = .next
        { s with idx := s.idx + 1, burst := some { b with buf := b.buf ++ [d] } })

/-- 45_sample_classes.md R94: `WR_DATA`, the mirror image, opening a write burst. -/
def Obligations.WriteDataIsAbsorbed : Prop :=
  ∀ (d : Half) (s : State), s.phase = .run → classOf s.params 0x10#5 = .cData →
    encodeWord (.wrData d) = 0x01100000#32 ||| d.setWidth 32 ∧
      (s.burst = none → exec (.wrData d) s = .next
        { s with idx := s.idx + 1, burst := some { start := s.idx, isRead := false, buf := [d] } }) ∧
      (∀ b, s.burst = some b → exec (.wrData d) s = .next
        { s with idx := s.idx + 1, burst := some { b with buf := b.buf ++ [d] } })

/-- 44_data_burst.md R81, R82, R88: a run of DATA samples, in any mixture of directions, becomes one
open burst with the start and direction of its first sample and the data of all, in order. -/
def Obligations.DataRunBecomesOneBurst : Prop :=
  ∀ (i : Instr) (is : List Instr) (s : State), s.phase = .run → s.burst = none →
    (∀ j ∈ i :: is, isDataInstr s.params j = true) →
    runInstrs (i :: is) s = .next
      { s with
        idx := s.idx + (is.length + 1)
        burst := some
          { start := s.idx
            isRead := i.sample.dior == 0#1
            buf := (i :: is).map fun j => j.sample.data } }

/-- 44_data_burst.md R90: a run of `N` DATA samples followed by an access to another register yields
exactly one `F_BURST`, of `2N` bytes in `ceil(N/8)` rows, with the first sample's index and direction,
and no `F_REG` frame; a suppressed or emitted frame of the closing access alone follows. -/
def Obligations.DataRunYieldsOneBurstFrame : Prop :=
  ∀ (i : Instr) (is : List Instr) (e : Instr) (s : State), s.phase = .run → s.burst = none →
    (∀ j ∈ i :: is, isDataInstr s.params j = true) → isRegInstr s.params e = true →
    ∃ t b fs, runInstrs (i :: is ++ [e]) s = .next t ∧ t.burst = none ∧
      t.out = s.out ++ .fBurst b :: fs ∧ b.start = s.idx ∧
      b.isRead = (i.sample.dior == 0#1) ∧ b.byteLen = 2 * (is.length + 1) ∧
      b.rows.length = (is.length + 1 + 7) / 8 ∧
      fs.length ≤ 1 ∧ ∀ f ∈ fs, f.kindCode = 0 ∧ f.key = s.idx + is.length + 1

/-- 44_data_burst.md R84 to R86: the frame of a burst: `2N` bytes, `ceil(N/8)` rows, row `r` at offset
`16r`, all rows but the last of 16 bytes and the last of 2 to 16, the rows together the data of all
samples, low byte then high byte, and one ASCII character per byte. -/
def Obligations.BurstFrameDumpsItsBuffer : Prop :=
  ∀ b : Burst, b.buf ≠ [] → ∃ f, closeBurst b = .fBurst f ∧
    f.start = b.start ∧ f.isRead = b.isRead ∧ f.byteLen = 2 * b.buf.length ∧
    f.cat = (if b.isRead then .catRead else .catWrite) ∧
    f.rows.length = (b.buf.length + 7) / 8 ∧
    (f.rows.flatMap fun r => r.bytes) = (b.buf.flatMap fun d => [lo8 d, hi8 d]) ∧
    ∀ r row, f.rows[r]? = some row →
      row.offset = 16 * r ∧ row.ascii = row.bytes.map asc ∧
      (r + 1 < f.rows.length → row.bytes.length = 16) ∧
      (r + 1 = f.rows.length → row.bytes.length = 2 * (b.buf.length - 8 * r) ∧
        2 ≤ row.bytes.length ∧ row.bytes.length ≤ 16)

/-- 00_scope.md R11 and 46_decoder_step.md R120: the two bytes of a sample's data are its remainder and
quotient by 256, and `asc` prints exactly the bytes 0x20 to 0x7E as themselves. -/
def Obligations.ByteSplitAndPrintableRange : Prop :=
  (∀ d : Half, (lo8 d).toNat = d.toNat % 256 ∧ (hi8 d).toNat = d.toNat / 256) ∧
    ∀ b : Byte, asc b =
      if 0x20 ≤ b.toNat ∧ b.toNat ≤ 0x7E then Char.ofNat b.toNat else '.'

/-! ### Register accesses -/

/-- 45_sample_classes.md R95: `RD_ERROR` closes an open burst and emits one frame with the eight error
flags, most significant bit first. -/
def Obligations.ReadErrorEmitsErrorFlags : Prop :=
  ∀ (d : Half) (s : State), s.phase = .run → classOf s.params 0x11#5 = .cErr →
    encodeWord (.rdError d) = 0x02110000#32 ||| d.setWidth 32 ∧
      exec (.rdError d) s = .next { s with
        idx := s.idx + 1
        burst := none
        out := s.out ++ (burstFrames s.burst ++ [line s.idx d true .error
          (.aFlags .vocError #v[d.getLsbD 7, d.getLsbD 6, d.getLsbD 5, d.getLsbD 4, d.getLsbD 3,
            d.getLsbD 2, d.getLsbD 1, d.getLsbD 0]) .catError]) }

/-- 45_sample_classes.md R96: `WR_FEATURES` closes an open burst and emits one frame, no breakdown. -/
def Obligations.WriteFeaturesEmitsPlainFrame : Prop :=
  ∀ (d : Half) (s : State), s.phase = .run → classOf s.params 0x11#5 = .cErr →
    encodeWord (.wrFeatures d) = 0x01110000#32 ||| d.setWidth 32 ∧
      exec (.wrFeatures d) s = .next { s with
        idx := s.idx + 1
        burst := none
        out := s.out ++
          (burstFrames s.burst ++ [line s.idx d false .features .aNone .catWrite]) }

/-- 45_sample_classes.md R97 to R106: the ten SECTOR_COUNT, LBA and DEVICE rows behave identically
except for the register name: each closes an open burst and emits one frame without annotation. -/
def Obligations.TaskFileRowsEmitPlainFrames : Prop :=
  ∀ r ∈ taskFileRows, ∀ (d : Half) (s : State), s.phase = .run →
    classOf s.params r.code = r.cls →
    encodeWord (r.ctor d) = r.matchWord ||| d.setWidth 32 ∧
      exec (r.ctor d) s = .next { s with
        idx := s.idx + 1
        burst := none
        out := s.out ++ (burstFrames s.burst ++
          [line s.idx d r.isRead r.reg .aNone (if r.isRead then .catRead else .catWrite)]) }

/-- 45_sample_classes.md R107: `RD_STATUS`. A read equal in all 16 bits to the STATUS read at the index
before is suppressed; any other emits a frame with the eight status flags. Both close an open burst
and move `trkS`; neither touches `trkA`. -/
def Obligations.ReadStatusSuppressesOrEmits : Prop :=
  ∀ (d : Half) (s : State), s.phase = .run → classOf s.params 0x17#5 = .cStat →
    encodeWord (.rdStatus d) = 0x02170000#32 ||| d.setWidth 32 ∧
      ((∃ li, s.trkS = some { lastIdx := li, lastData := d } ∧ s.idx = li + 1) →
        exec (.rdStatus d) s = .next { s with
          idx := s.idx + 1
          burst := none
          trkS := some { lastIdx := s.idx, lastData := d }
          out := s.out ++ burstFrames s.burst }) ∧
      ((¬ ∃ li, s.trkS = some { lastIdx := li, lastData := d } ∧ s.idx = li + 1) →
        exec (.rdStatus d) s = .next { s with
          idx := s.idx + 1
          burst := none
          trkS := some { lastIdx := s.idx, lastData := d }
          out := s.out ++ (burstFrames s.burst ++ [line s.idx d true .status
            (.aFlags .vocStatus #v[d.getLsbD 7, d.getLsbD 6, d.getLsbD 5, d.getLsbD 4, d.getLsbD 3,
              d.getLsbD 2, d.getLsbD 1, d.getLsbD 0]) .catStatus]) })

/-- 45_sample_classes.md R108: `WR_COMMAND` emits a frame with the code and its name, `UNKNOWN` if the
table has none; it is never suppressed and leaves `trkS` alone. -/
def Obligations.WriteCommandEmitsNamedFrame : Prop :=
  ∀ (d : Half) (s : State), s.phase = .run → classOf s.params 0x17#5 = .cStat →
    encodeWord (.wrCommand d) = 0x01170000#32 ||| d.setWidth 32 ∧
      exec (.wrCommand d) s = .next { s with
        idx := s.idx + 1
        burst := none
        out := s.out ++ (burstFrames s.burst ++ [line s.idx d false .command
          (.aCmd (lo8 d) (match s.params.cmdNames.lookup (lo8 d) with
            | some n => n
            | none => "UNKNOWN")) .catWrite]) }

/-- 45_sample_classes.md R109: `RD_ALT_STATUS`, as `RD_STATUS` with `trkA` for `trkS`, the name
ALT_STATUS and the STATUS vocabulary. -/
def Obligations.ReadAltStatusSuppressesOrEmits : Prop :=
  ∀ (d : Half) (s : State), s.phase = .run → classOf s.params 0x0E#5 = .cAlt →
    encodeWord (.rdAltStatus d) = 0x020E0000#32 ||| d.setWidth 32 ∧
      ((∃ li, s.trkA = some { lastIdx := li, lastData := d } ∧ s.idx = li + 1) →
        exec (.rdAltStatus d) s = .next { s with
          idx := s.idx + 1
          burst := none
          trkA := some { lastIdx := s.idx, lastData := d }
          out := s.out ++ burstFrames s.burst }) ∧
      ((¬ ∃ li, s.trkA = some { lastIdx := li, lastData := d } ∧ s.idx = li + 1) →
        exec (.rdAltStatus d) s = .next { s with
          idx := s.idx + 1
          burst := none
          trkA := some { lastIdx := s.idx, lastData := d }
          out := s.out ++ (burstFrames s.burst ++ [line s.idx d true .altStatus
            (.aFlags .vocStatus #v[d.getLsbD 7, d.getLsbD 6, d.getLsbD 5, d.getLsbD 4, d.getLsbD 3,
              d.getLsbD 2, d.getLsbD 1, d.getLsbD 0]) .catStatus]) })

/-- 45_sample_classes.md R110: `WR_DEVICE_CONTROL` emits a frame without annotation and leaves `trkA`
alone; a software reset written here does not reset the decoder. -/
def Obligations.WriteDeviceControlEmitsPlainFrame : Prop :=
  ∀ (d : Half) (s : State), s.phase = .run → classOf s.params 0x0E#5 = .cAlt →
    encodeWord (.wrDeviceControl d) = 0x010E0000#32 ||| d.setWidth 32 ∧
      exec (.wrDeviceControl d) s = .next { s with
        idx := s.idx + 1
        burst := none
        out := s.out ++
          (burstFrames s.burst ++ [line s.idx d false .deviceControl .aNone .catWrite]) }

/-- 45_sample_classes.md R111: the 23 unknown reads close an open burst and emit a frame whose register
is `Unknown` with the raw address; never suppressed, never an error. -/
def Obligations.UnknownReadsEmitRawAddress : Prop :=
  ∀ r ∈ unknownReadRows, ∀ (d : Half) (s : State), s.phase = .run →
    classOf s.params r.2 = .cUnknown →
    encodeWord (r.1 d) = 0x02000000#32 ||| r.2.setWidth 32 <<< 16 ||| d.setWidth 32 ∧
      exec (r.1 d) s = .next { s with
        idx := s.idx + 1
        burst := none
        out := s.out ++ (burstFrames s.burst ++ [line s.idx d true (.unknown r.2) .aNone .catRead]) }

/-- 45_sample_classes.md R112: the 23 unknown writes, as the reads with direction and category write. -/
def Obligations.UnknownWritesEmitRawAddress : Prop :=
  ∀ r ∈ unknownWriteRows, ∀ (d : Half) (s : State), s.phase = .run →
    classOf s.params r.2 = .cUnknown →
    encodeWord (r.1 d) = 0x01000000#32 ||| r.2.setWidth 32 <<< 16 ||| d.setWidth 32 ∧
      exec (r.1 d) s = .next { s with
        idx := s.idx + 1
        burst := none
        out := s.out ++ (burstFrames s.burst ++ [line s.idx d false (.unknown r.2) .aNone .catWrite]) }

/-- 46_decoder_step.md R114 with 30_encoding.md R45: under every `ADDR_MAP`, each of the 66 rows follows
the class its own word selects: framing error, DATA sample, or another register, of which only a STATUS
or ALT_STATUS read can be suppressed and only those move a tracker. -/
def Obligations.EveryRowFollowsItsClass : Prop :=
  ∀ (i : Instr) (s : State), s.phase = .run →
    let smp := i.sample
    let cls := classOf s.params smp.address
    let isRead := smp.dior == 0#1
    (smp.dior = smp.diow → exec i s = .next { s with
      idx := s.idx + 1
      out := s.out ++ [.fFraming { idx := s.idx, sample := smp, cat := .catError }] }) ∧
    (smp.dior ≠ smp.diow → cls = .cData → exec i s = .next { s with
      idx := s.idx + 1
      burst := some (match s.burst with
        | none => { start := s.idx, isRead := isRead, buf := [smp.data] }
        | some b => { b with buf := b.buf ++ [smp.data] }) }) ∧
    (smp.dior ≠ smp.diow → cls ≠ .cData → exec i s = .next { s with
      idx := s.idx + 1
      burst := none
      trkS := if isRead ∧ cls = .cStat then some { lastIdx := s.idx, lastData := smp.data } else s.trkS
      trkA := if isRead ∧ cls = .cAlt then some { lastIdx := s.idx, lastData := smp.data } else s.trkA
      out := s.out ++ (burstFrames s.burst ++
        if isRead ∧ (cls = .cStat ∧ isDuplicate s.trkS s.idx smp.data ∨
            cls = .cAlt ∧ isDuplicate s.trkA s.idx smp.data) then []
        else [.fReg (regFrame s.params smp isRead s.idx)]) })

/-! ### Register map, flags, annotation -/

/-- 40_register_map.md R49, R50: the name of every class in each direction; only three classes change
name with direction, and an unknown address carries its raw code in both. -/
def Obligations.RegisterNamesByDirection : Prop :=
  ∀ (p : Params) (a : AddrCode),
    (classOf p a = .cData → registerFor p a true = .data ∧ registerFor p a false = .data) ∧
    (classOf p a = .cErr → registerFor p a true = .error ∧ registerFor p a false = .features) ∧
    (classOf p a = .cScnt →
      registerFor p a true = .sectorCount ∧ registerFor p a false = .sectorCount) ∧
    (classOf p a = .cLbal → registerFor p a true = .lbaLow ∧ registerFor p a false = .lbaLow) ∧
    (classOf p a = .cLbam → registerFor p a true = .lbaMid ∧ registerFor p a false = .lbaMid) ∧
    (classOf p a = .cLbah → registerFor p a true = .lbaHigh ∧ registerFor p a false = .lbaHigh) ∧
    (classOf p a = .cDev → registerFor p a true = .device ∧ registerFor p a false = .device) ∧
    (classOf p a = .cStat → registerFor p a true = .status ∧ registerFor p a false = .command) ∧
    (classOf p a = .cAlt →
      registerFor p a true = .altStatus ∧ registerFor p a false = .deviceControl) ∧
    (classOf p a = .cUnknown →
      registerFor p a true = .unknown a ∧ registerFor p a false = .unknown a)

/-- 40_register_map.md R51 to R53: both breakdowns have exactly 8 tokens for every byte; position `q`
is the vocabulary's name there if bit `7 - q` is set, and a placeholder if it is clear. -/
def Obligations.FlagBreakdownHasEightTokens : Prop :=
  ∀ (p : Params) (b : Byte),
    (statusFlags p b).length = 8 ∧ (errorFlags p b).length = 8 ∧
      ∀ q : Fin 8,
        (statusFlags p b)[q.val]? = some (if b.getLsbD (7 - q.val)
          then .name (p.statusFlagNames.get q) else .placeholder) ∧
        (errorFlags p b)[q.val]? = some (if b.getLsbD (7 - q.val)
          then .name (p.errFlagNames.get q) else .placeholder)

/-- 42_framing_direction_annotation.md R70, 40_register_map.md R54: reads of `C_STAT` and `C_ALT` get the
STATUS breakdown of the low byte, reads of `C_ERR` the ERROR breakdown, writes of `C_STAT` the command,
and no other access gets anything. -/
def Obligations.AnnotationByClassAndDirection : Prop :=
  ∀ (p : Params) (cls : RegClass) (isRead : Bool) (d : Half),
    (annotationOf p cls isRead d = .aFlags .vocStatus (flagBits (lo8 d)) ↔
      isRead = true ∧ (cls = .cStat ∨ cls = .cAlt)) ∧
    (annotationOf p cls isRead d = .aFlags .vocError (flagBits (lo8 d)) ↔
      isRead = true ∧ cls = .cErr) ∧
    (annotationOf p cls isRead d = .aCmd (lo8 d) (lookupCommand p (lo8 d)) ↔
      isRead = false ∧ cls = .cStat) ∧
    (annotationOf p cls isRead d = .aNone ↔
      ¬ (isRead = true ∧ (cls = .cStat ∨ cls = .cAlt ∨ cls = .cErr)) ∧
        ¬ (isRead = false ∧ cls = .cStat))

/-- 40_register_map.md R55, R60: a resolved code shows the name of the first entry with that code, an
unresolved one `UNKNOWN`. -/
def Obligations.FirstCommandNameWins : Prop :=
  ∀ (p : Params) (code : Byte),
    (∀ pre post n, p.cmdNames = pre ++ (code, n) :: post → (∀ e ∈ pre, e.1 ≠ code) →
      lookupCommand p code = n) ∧
      ((∀ e ∈ p.cmdNames, e.1 ≠ code) → lookupCommand p code = "UNKNOWN")

/-! ### Duplicate suppression -/

/-- 43_duplicate_suppression.md R78: a tracker changes only by a non-framing read of its own class, and
then names that read; no other row touches it, and no step that ends a pass does. -/
def Obligations.TrackersFollowOnlyTheirOwnReads : Prop :=
  (∀ (i : Instr) (s t : State), exec i s = .next t →
    t.trkS = (if classify s.params i.sample = .access true .cStat
      then some { lastIdx := s.idx, lastData := i.sample.data } else s.trkS) ∧
    t.trkA = (if classify s.params i.sample = .access true .cAlt
      then some { lastIdx := s.idx, lastData := i.sample.data } else s.trkA)) ∧
    ∀ s t : State, step s = .next t → t.phase ≠ .run → t.trkS = s.trkS ∧ t.trkA = s.trkA

/-- 43_duplicate_suppression.md R76: a chain of equal STATUS reads emits the first only and is
suppressed for as long as it stays unbroken, the marker following the last. -/
def Obligations.PollingChainEmitsFirstOnly : Prop :=
  ∀ (n : Nat) (d : Half) (s : State), s.phase = .run → classOf s.params 0x17#5 = .cStat →
    s.trkS = none → s.burst = none →
    ∃ f : RegFrame, f.idx = s.idx ∧ f.reg = .status ∧
      runInstrs (List.replicate (n + 1) (.rdStatus d)) s = .next { s with
        idx := s.idx + (n + 1)
        trkS := some { lastIdx := s.idx + n, lastData := d }
        out := s.out ++ [.fReg f] }

/-- 43_duplicate_suppression.md R79 (b): on a state of a pass, the incremental test agrees with the
declarative one: the record about to be consumed, an access to a register other than DATA, leaves the
output as it is if and only if the records at `idx - 1` and `idx` are both non-framing reads of the
same class in `C_STAT`, `C_ALT` with equal data. R79 (a): a suppressed record finds no burst open. -/
def Obligations.SuppressedIffEqualAdjacentReads : Prop :=
  ∀ s t : State, Inv s → step s = .next t → 4 * s.idx + 4 ≤ s.src.len →
    framingAt s.src s.idx = false → dataAt s.src s.params s.idx = false →
    (t.out = s.out ↔ suppressedAt s.src s.params s.idx = true) ∧
      (suppressedAt s.src s.params s.idx = true → s.burst = none)

/-! ### The pass -/

/-- The invariant and the output equation hold at the start of every pass over a canonical store, the
reset state among them (10_state.md R22). -/
def Obligations.InvariantHoldsAtStart : Prop :=
  (Inv State.reset ∧ State.reset.out = expectedOut State.reset ∧ Ordered State.reset) ∧
    ∀ (m : Memory) (p : Params) (s : State), m.wf → startPass (some m) p = .next s →
      Inv s ∧ s.out = expectedOut s ∧ Ordered s

/-- 46_decoder_step.md R124 (a) to (d), (f): every step keeps the invariant: the trackers are the most
recent reads of their registers, the burst is the run of DATA samples still open. -/
def Obligations.StepKeepsInvariant : Prop :=
  ∀ s t : State, Inv s → step s = .next t → Inv t

/-- 46_decoder_step.md R124 (e), R116, R117: every step keeps the output equal to what the consumed
records and the end of the pass call for, a function of the store alone: no record is lost, reported
twice or reported out of turn. -/
def Obligations.StepKeepsOutputExplained : Prop :=
  ∀ s t : State, Inv s → s.out = expectedOut s → step s = .next t → t.out = expectedOut t

/-- 46_decoder_step.md R123: every step keeps the output in order: an `F_IOERR` last, keys rising, but
for a framing error inside the run of a burst reported after it. -/
def Obligations.StepKeepsOutputOrder : Prop :=
  ∀ s t : State, Ordered s → step s = .next t → Ordered t

/-- 46_decoder_step.md R124 (b), (c), (d) in the rule's own words, from the invariant; (d) while the pass
runs (log 14). -/
def Obligations.TrackersAndBurstDescribeTheStore : Prop :=
  ∀ s : State, Inv s →
    (∀ li ld, s.trkS = some { lastIdx := li, lastData := ld } →
      li < s.idx ∧ readAt s.src s.params .cStat li = true ∧ (sampleAt s.src li).data = ld) ∧
    (∀ li ld, s.trkA = some { lastIdx := li, lastData := ld } →
      li < s.idx ∧ readAt s.src s.params .cAlt li = true ∧ (sampleAt s.src li).data = ld) ∧
    (∀ b, s.burst = some b →
      b.start < s.idx ∧ b.buf ≠ [] ∧
        classAt s.src s.params b.start = .access b.isRead .cData ∧
        b.buf.head? = some (sampleAt s.src b.start).data ∧
        (∀ i, b.start ≤ i → i < s.idx → framingAt s.src i = false →
          dataAt s.src s.params i = true) ∧
        b.buf = ((accessesBelow s.src s.idx).filter fun i => b.start ≤ i).map fun i =>
          (sampleAt s.src i).data) ∧
    (s.phase = .run → s.burst = none → ∀ i, (accessesBelow s.src s.idx).getLast? = some i →
      dataAt s.src s.params i = false)

/-- 46_decoder_step.md R124, the counting sentence: for a pass that ended `DONE`, the records are the
`F_REG` frames, the `F_FRAMING` frames, the suppressed duplicates and half the bytes of the bursts. -/
def Obligations.DonePassAccountsForEveryRecord : Prop :=
  ∀ s : State, Inv s → s.out = expectedOut s → s.phase = .done →
    s.src.recordCount = regCount s.out + framingCount s.out +
      suppressedCount s.src s.params s.src.recordCount + burstBytes s.out / 2

/-- 46_decoder_step.md R115, 70_reset_and_hazards.md R178: from the start of a pass over any store, the
first `NREC` steps consume one record each and stay in `RUN`, and step `NREC + 1` ends the run, well
exactly if the length is a multiple of 4, and badly otherwise. -/
def Obligations.PassEndsAfterEveryRecord : Prop :=
  ∀ (m : Memory) (p : Params) (s : State), startPass (some m) p = .next s →
    (∀ k, k ≤ m.recordCount → ∃ t : State, Host.Core.run Sys2Proof.core k s = .next t ∧
      t.phase = .run ∧ t.idx = k) ∧
    ∃ t : State, Host.Core.run Sys2Proof.core (m.recordCount + 1) s = .next t ∧
      t.idx = m.recordCount ∧
      (m.remainder = 0 → EndedWell t ∧ t.burst = none) ∧
      (m.remainder ≠ 0 → EndedBadly t ∧ ∃ fs, t.out = fs ++
        [.fIoErr { idx := m.recordCount, strayBytes := m.remainder, cat := .catError }])

/-- 46_decoder_step.md R114 to R117 together: the result of a pass over a canonical store is a function
of the store and the parameters said without carry-over state: the frames of its records in order,
then the flush of a burst still open, and an `F_IOERR` if bytes are left (00_scope.md R12). -/
def Obligations.PassOutputIsFunctionOfStore : Prop :=
  ∀ (m : Memory) (p : Params) (s : State), m.wf → startPass (some m) p = .next s →
    ∃ t : State, Host.Core.run Sys2Proof.core (m.recordCount + 1) s = .next t ∧
      t.out = framesBelow m p m.recordCount ++
        if m.remainder = 0 then burstFrames (openBurst m p m.recordCount)
        else (if p.flushOnTruncation then burstFrames (openBurst m p m.recordCount) else []) ++
          [.fIoErr { idx := m.recordCount, strayBytes := m.remainder, cat := .catError }]

/-- 46_decoder_step.md R119: the first steps depend on the first records only: two states that differ
only in their stores, which agree on their first `4n` bytes, go through the same states, but for the
store, as long as they stay below record `n`. -/
def Obligations.PrefixOfStoreDeterminesPrefixOfRun : Prop :=
  ∀ (n k : Nat) (s : State) (m' : Memory), agreeBelow (4 * n) s.src m' → s.idx + k ≤ n →
    s.phase = .run →
    ∃ t : State, Host.Core.run Sys2Proof.core k s = .next t ∧
      Host.Core.run Sys2Proof.core k { s with src := m' } = .next { t with src := m' }

/-- 10_state.md R18: the output is append-only: no step changes or withdraws an emitted frame; a step
appends at most two. -/
def Obligations.OutputIsAppendOnly : Prop :=
  ∀ s t : State, step s = .next t → ∃ fs, t.out = s.out ++ fs ∧ fs.length ≤ 2

/-- 20_memory.md R28, 10_state.md R20: no step writes the store, any byte of it, or a parameter. -/
def Obligations.StoreAndParametersAreConstant : Prop :=
  ∀ s t : State, step s = .next t → t.src = s.src ∧ t.params = s.params ∧
    ∀ a, t.src.byteAt a = s.src.byteAt a

/-- 46_decoder_step.md R121, 10_state.md R14, R17: a step starts in `RUN`; a record advances `idx` by
exactly 1 and stays in `RUN`, the end of the store leads to `DONE` and a truncated tail to `FAILED`,
both with `idx` kept. -/
def Obligations.ControlMovesOnlyForward : Prop :=
  ∀ s t : State, step s = .next t →
    s.phase = .run ∧
      ((4 * s.idx + 4 ≤ s.src.len ∧ t.phase = .run ∧ t.idx = s.idx + 1) ∨
        (s.src.len = 4 * s.idx ∧ t.phase = .done ∧ t.idx = s.idx ∧ t.burst = none) ∨
        (4 * s.idx < s.src.len ∧ s.src.len < 4 * s.idx + 4 ∧ t.phase = .failed ∧ t.idx = s.idx))

/-- 46_decoder_step.md R115, R120: on a state of a pass that is still running a step always has a next
state: no fault and no refusal is ever met. -/
def Obligations.RunningPassNeverStops : Prop :=
  ∀ s : State, Inv s → s.phase = .run → ∃ t, step s = .next t
end

