-- ==== Sys2Proof/Laws/Assembly.lean ====
section
/-! SUPPORT. What the names and the lines of the sample notation stand for, said once. -/

namespace Sys2Proof.Machine

/-- A name that is no raw code: the code of its class under a map of 40_register_map.md R58, else
nothing (log 17). -/
theorem codeOfName_name (p : Params) (n : RegName) (h : ∀ a, n ≠ .unknown a) :
    codeOfName p n =
      if p.wellFormed then
        (p.addrMap.toList.idxOf? (classOfName n)).map fun k => BitVec.ofNat 5 k
      else none := by
  cases n <;> first | exact absurd rfl (h _) | rfl

/-- A read line (30_encoding.md R46). -/
theorem assemble_rd (p : Params) (n : RegName) (d : Half) :
    assemble p (.rd n d) = (codeOfName p n).map fun a => encodeSample (readSample a d) := by
  simp [assemble, assembleSample, Function.comp_def]

/-- A write line (30_encoding.md R46). -/
theorem assemble_wr (p : Params) (n : RegName) (d : Half) :
    assemble p (.wr n d) = (codeOfName p n).map fun a => encodeSample (writeSample a d) := by
  simp [assemble, assembleSample, Function.comp_def]

end Sys2Proof.Machine
end

