-- ==== Sys2Proof/Laws/PerInstr.lean ====
section
/-! SUPPORT. Per instruction: the row a sample selects is the row the sample was made from
(30_encoding.md R45), so that the round trip of an instruction reduces to that of its sample. -/

namespace Sys2Proof.Laws.RowSelect

/-- Selecting the row of the instruction's sample gives the instruction back. -/
def Statement (i : Instr) : Prop := Instr.ofSample i.sample = i

theorem framingFe0 (address : AddrCode) (data : Half) : Statement (.framingFe0 address data) := rfl

theorem framingFe1 (address : AddrCode) (data : Half) : Statement (.framingFe1 address data) := rfl

theorem rdUnknown00 (data : Half) : Statement (.rdUnknown00 data) := rfl

theorem rdUnknown01 (data : Half) : Statement (.rdUnknown01 data) := rfl

theorem rdUnknown02 (data : Half) : Statement (.rdUnknown02 data) := rfl

theorem rdUnknown03 (data : Half) : Statement (.rdUnknown03 data) := rfl

theorem rdUnknown04 (data : Half) : Statement (.rdUnknown04 data) := rfl

theorem rdUnknown05 (data : Half) : Statement (.rdUnknown05 data) := rfl

theorem rdUnknown06 (data : Half) : Statement (.rdUnknown06 data) := rfl

theorem rdUnknown07 (data : Half) : Statement (.rdUnknown07 data) := rfl

theorem rdUnknown08 (data : Half) : Statement (.rdUnknown08 data) := rfl

theorem rdUnknown09 (data : Half) : Statement (.rdUnknown09 data) := rfl

theorem rdUnknown0A (data : Half) : Statement (.rdUnknown0A data) := rfl

theorem rdUnknown0B (data : Half) : Statement (.rdUnknown0B data) := rfl

theorem rdUnknown0C (data : Half) : Statement (.rdUnknown0C data) := rfl

theorem rdUnknown0D (data : Half) : Statement (.rdUnknown0D data) := rfl

theorem rdAltStatus (data : Half) : Statement (.rdAltStatus data) := rfl

theorem rdUnknown0F (data : Half) : Statement (.rdUnknown0F data) := rfl

theorem rdData (data : Half) : Statement (.rdData data) := rfl

theorem rdError (data : Half) : Statement (.rdError data) := rfl

theorem rdSectorCount (data : Half) : Statement (.rdSectorCount data) := rfl

theorem rdLbaLow (data : Half) : Statement (.rdLbaLow data) := rfl

theorem rdLbaMid (data : Half) : Statement (.rdLbaMid data) := rfl

theorem rdLbaHigh (data : Half) : Statement (.rdLbaHigh data) := rfl

theorem rdDevice (data : Half) : Statement (.rdDevice data) := rfl

theorem rdStatus (data : Half) : Statement (.rdStatus data) := rfl

theorem rdUnknown18 (data : Half) : Statement (.rdUnknown18 data) := rfl

theorem rdUnknown19 (data : Half) : Statement (.rdUnknown19 data) := rfl

theorem rdUnknown1A (data : Half) : Statement (.rdUnknown1A data) := rfl

theorem rdUnknown1B (data : Half) : Statement (.rdUnknown1B data) := rfl

theorem rdUnknown1C (data : Half) : Statement (.rdUnknown1C data) := rfl

theorem rdUnknown1D (data : Half) : Statement (.rdUnknown1D data) := rfl

theorem rdUnknown1E (data : Half) : Statement (.rdUnknown1E data) := rfl

theorem rdUnknown1F (data : Half) : Statement (.rdUnknown1F data) := rfl

theorem wrUnknown00 (data : Half) : Statement (.wrUnknown00 data) := rfl

theorem wrUnknown01 (data : Half) : Statement (.wrUnknown01 data) := rfl

theorem wrUnknown02 (data : Half) : Statement (.wrUnknown02 data) := rfl

theorem wrUnknown03 (data : Half) : Statement (.wrUnknown03 data) := rfl

theorem wrUnknown04 (data : Half) : Statement (.wrUnknown04 data) := rfl

theorem wrUnknown05 (data : Half) : Statement (.wrUnknown05 data) := rfl

theorem wrUnknown06 (data : Half) : Statement (.wrUnknown06 data) := rfl

theorem wrUnknown07 (data : Half) : Statement (.wrUnknown07 data) := rfl

theorem wrUnknown08 (data : Half) : Statement (.wrUnknown08 data) := rfl

theorem wrUnknown09 (data : Half) : Statement (.wrUnknown09 data) := rfl

theorem wrUnknown0A (data : Half) : Statement (.wrUnknown0A data) := rfl

theorem wrUnknown0B (data : Half) : Statement (.wrUnknown0B data) := rfl

theorem wrUnknown0C (data : Half) : Statement (.wrUnknown0C data) := rfl

theorem wrUnknown0D (data : Half) : Statement (.wrUnknown0D data) := rfl

theorem wrDeviceControl (data : Half) : Statement (.wrDeviceControl data) := rfl

theorem wrUnknown0F (data : Half) : Statement (.wrUnknown0F data) := rfl

theorem wrData (data : Half) : Statement (.wrData data) := rfl

theorem wrFeatures (data : Half) : Statement (.wrFeatures data) := rfl

theorem wrSectorCount (data : Half) : Statement (.wrSectorCount data) := rfl

theorem wrLbaLow (data : Half) : Statement (.wrLbaLow data) := rfl

theorem wrLbaMid (data : Half) : Statement (.wrLbaMid data) := rfl

theorem wrLbaHigh (data : Half) : Statement (.wrLbaHigh data) := rfl

theorem wrDevice (data : Half) : Statement (.wrDevice data) := rfl

theorem wrCommand (data : Half) : Statement (.wrCommand data) := rfl

theorem wrUnknown18 (data : Half) : Statement (.wrUnknown18 data) := rfl

theorem wrUnknown19 (data : Half) : Statement (.wrUnknown19 data) := rfl

theorem wrUnknown1A (data : Half) : Statement (.wrUnknown1A data) := rfl

theorem wrUnknown1B (data : Half) : Statement (.wrUnknown1B data) := rfl

theorem wrUnknown1C (data : Half) : Statement (.wrUnknown1C data) := rfl

theorem wrUnknown1D (data : Half) : Statement (.wrUnknown1D data) := rfl

theorem wrUnknown1E (data : Half) : Statement (.wrUnknown1E data) := rfl

theorem wrUnknown1F (data : Half) : Statement (.wrUnknown1F data) := rfl

end Sys2Proof.Laws.RowSelect

namespace Sys2Proof

/-- Every instruction is the row its sample selects. -/
theorem ofSample_sample (i : Instr) : Instr.ofSample i.sample = i := by
  cases i <;> rfl

end Sys2Proof
end

