-- ==== Sys2Proof/Laws/Decode.lean ====
section
/-! SUPPORT. The codec: what decoding a byte list answers, and that the bytes of a word give it back. -/

namespace Sys2Proof

@[simp] theorem decode_nil : decode [] = .error .endOfSequence := rfl

@[simp] theorem decode_record (b0 b1 b2 b3 : Byte) (rest : List Byte) :
    decode (b0 :: b1 :: b2 :: b3 :: rest) = .ok (decodeWord (le32 b0 b1 b2 b3), rest) := rfl

/-- What decoding can answer: a record with the rest, the end, or 1 to 3 stray bytes. -/
theorem decode_cases (bs : List Byte) :
    (bs = [] ∧ decode bs = .error .endOfSequence) ∨
      (1 ≤ bs.length ∧ bs.length ≤ 3 ∧ decode bs = .error (.truncatedRecord bs.length)) ∨
      ∃ b0 b1 b2 b3 rest, bs = b0 :: b1 :: b2 :: b3 :: rest ∧
        decode bs = .ok (decodeWord (le32 b0 b1 b2 b3), rest) := by
  match bs with
  | [] => exact .inl ⟨rfl, rfl⟩
  | [_] => exact .inr (.inl ⟨by simp, by simp, rfl⟩)
  | [_, _] => exact .inr (.inl ⟨by simp, by simp, rfl⟩)
  | [_, _, _] => exact .inr (.inl ⟨by simp, by simp, rfl⟩)
  | b0 :: b1 :: b2 :: b3 :: rest => exact .inr (.inr ⟨b0, b1, b2, b3, rest, rfl, rfl⟩)

/-- The bit of a word made of four bytes. -/
theorem getLsbD_le32 (b0 b1 b2 b3 : Byte) (i : Nat) :
    (le32 b0 b1 b2 b3).getLsbD i =
      if i < 8 then b0.getLsbD i
      else if i < 16 then b1.getLsbD (i - 8)
      else if i < 24 then b2.getLsbD (i - 16)
      else b3.getLsbD (i - 24) := by
  unfold le32
  simp only [BitVec.getLsbD_append]
  split
  · rfl
  · split
    · rw [if_pos (by omega)]
    · split
      · rw [if_neg (by omega), if_pos (by omega), Nat.sub_sub]
      · rw [if_neg (by omega), if_neg (by omega), Nat.sub_sub, Nat.sub_sub]

/-- The word of the bytes of a word. -/
theorem le32_wordBytes (w : Word) :
    le32 (w.extractLsb' 0 8) (w.extractLsb' 8 8) (w.extractLsb' 16 8) (w.extractLsb' 24 8) = w := by
  apply BitVec.eq_of_getLsbD_eq
  intro i hi
  rw [getLsbD_le32]
  simp only [BitVec.getLsbD_extractLsb']
  split
  · simp [*]
  · split
    · rw [show 8 + (i - 8) = i by omega]; simp; omega
    · split
      · rw [show 16 + (i - 16) = i by omega]; simp; omega
      · rw [show 24 + (i - 24) = i by omega]; simp; omega

@[simp] theorem wordBytes_length (w : Word) : (wordBytes w).length = 4 := rfl

@[simp] theorem encode_length (i : Instr) : (encode i).length = 4 := rfl

/-- Decoding the bytes of a word, with anything after them, decodes the word. -/
theorem decode_wordBytes (w : Word) (rest : List Byte) :
    decode (wordBytes w ++ rest) = .ok (decodeWord w, rest) := by
  show decode (_ :: _ :: _ :: _ :: rest) = _
  rw [decode_record, le32_wordBytes]

/-- A bit of an encoded sample: each field in its place, every other bit 0 (30_encoding.md R36). -/
theorem getLsbD_encodeSample (s : Sample) (i : Nat) :
    (encodeSample s).getLsbD i =
      (s.data.getLsbD i ||
        (decide (16 ≤ i) && s.address.getLsbD (i - 16)) ||
        (decide (24 ≤ i) && s.dior.getLsbD (i - 24)) ||
        (decide (25 ≤ i) && s.diow.getLsbD (i - 25))) := by
  unfold encodeSample
  simp only [BitVec.getLsbD_or, BitVec.getLsbD_shiftLeft, BitVec.getLsbD_setWidth]
  by_cases h : i < 32
  · by_cases h16 : i < 16
    · simp [h, h16, show i < 24 by omega, show i < 25 by omega, show ¬ 16 ≤ i by omega,
        show ¬ 24 ≤ i by omega, show ¬ 25 ≤ i by omega]
    · by_cases h24 : i < 24
      · simp [h, h16, h24, show i < 25 by omega, show i - 16 < 32 by omega, show 16 ≤ i by omega,
          show ¬ 24 ≤ i by omega, show ¬ 25 ≤ i by omega]
      · by_cases h25 : i < 25
        · simp [h, h16, h24, h25, show i - 16 < 32 by omega, show i - 24 < 32 by omega,
            show 16 ≤ i by omega, show 24 ≤ i by omega, show ¬ 25 ≤ i by omega]
        · simp [h, h16, h24, h25, show i - 16 < 32 by omega, show i - 24 < 32 by omega,
            show i - 25 < 32 by omega, show 16 ≤ i by omega, show 24 ≤ i by omega,
            show 25 ≤ i by omega]
  · simp [h, BitVec.getLsbD_of_ge s.data i (by omega),
      BitVec.getLsbD_of_ge s.address (i - 16) (by omega),
      BitVec.getLsbD_of_ge s.dior (i - 24) (by omega),
      BitVec.getLsbD_of_ge s.diow (i - 25) (by omega)]

/-- The word of a read sample (30_encoding.md R46). -/
theorem encodeSample_readSample (a : AddrCode) (d : Half) :
    encodeSample (readSample a d) = 0x02000000#32 ||| a.setWidth 32 <<< 16 ||| d.setWidth 32 := by
  show d.setWidth 32 ||| a.setWidth 32 <<< 16 ||| (0#1).setWidth 32 <<< 24 |||
    (1#1).setWidth 32 <<< 25 = _
  rw [show (0#1).setWidth 32 <<< 24 = 0#32 by decide,
    show (1#1).setWidth 32 <<< 25 = 0x02000000#32 by decide, BitVec.or_zero,
    BitVec.or_comm _ (0x02000000#32), BitVec.or_comm (d.setWidth 32), BitVec.or_assoc]

/-- The word of a write sample (30_encoding.md R46). -/
theorem encodeSample_writeSample (a : AddrCode) (d : Half) :
    encodeSample (writeSample a d) = 0x01000000#32 ||| a.setWidth 32 <<< 16 ||| d.setWidth 32 := by
  show d.setWidth 32 ||| a.setWidth 32 <<< 16 ||| (1#1).setWidth 32 <<< 24 |||
    (0#1).setWidth 32 <<< 25 = _
  rw [show (1#1).setWidth 32 <<< 24 = 0x01000000#32 by decide,
    show (0#1).setWidth 32 <<< 25 = 0#32 by decide, BitVec.or_zero,
    BitVec.or_comm _ (0x01000000#32), BitVec.or_comm (d.setWidth 32), BitVec.or_assoc]

end Sys2Proof

namespace Sys2Proof.Machine

/-- What the fetch answers: nothing beyond the end, a record if four bytes are left, else the end or the
number of bytes left (41_sample_codec.md R65). -/
theorem nextItem_eq (m : Memory) (i : Nat) :
    nextItem m i =
      if m.len < 4 * i then none
      else if 4 * i + 4 ≤ m.len then
        some (.record (decodeWord (le32 (m.byteAt (4 * i)) (m.byteAt (4 * i + 1))
          (m.byteAt (4 * i + 2)) (m.byteAt (4 * i + 3)))))
      else if m.len = 4 * i then some .endOfStore
      else some (.tail (m.len - 4 * i)) := by
  unfold nextItem Memory.read
  by_cases h : m.len < 4 * i
  · rw [if_neg (by omega), if_pos h]; rfl
  · rw [if_pos (by omega), if_neg h]
    by_cases h4 : 4 * i + 4 ≤ m.len
    · rw [if_pos h4, Nat.min_eq_left (by omega)]; rfl
    · rw [if_neg h4, Nat.min_eq_right (by omega)]
      rcases (by omega : m.len = 4 * i ∨ m.len = 4 * i + 1 ∨ m.len = 4 * i + 2 ∨ m.len = 4 * i + 3)
        with e | e | e | e
      · rw [if_pos e, e, Nat.sub_self]; rfl
      · rw [if_neg (by omega), e, Nat.add_sub_cancel_left]; rfl
      · rw [if_neg (by omega), e, Nat.add_sub_cancel_left]; rfl
      · rw [if_neg (by omega), e, Nat.add_sub_cancel_left]; rfl

end Sys2Proof.Machine
end

