-- ==== Sys2Proof/Laws/Memory.lean ====
section
/-! SUPPORT. The sample store: reading a byte after writing one, and that every operation on a store keeps
its canonical form. -/

namespace Sys2Proof.Machine

/-! ### One byte -/

theorem cellGet_cons (a' : Nat) (b : Byte) (cs : List Host.Cell) (a : Nat) :
    cellGet ((a', b) :: cs) a = if a' = a then b else cellGet cs a := rfl

/-- An address below every listed one is unlisted. -/
theorem cellGet_of_all_gt (cs : List Host.Cell) (a : Nat) (h : ∀ c ∈ cs, a < c.1) :
    cellGet cs a = Memory.unlisted := by
  induction cs with
  | nil => rfl
  | cons c cs ih =>
    have hc := h c (by simp)
    rw [cellGet_cons, if_neg (by omega)]
    exact ih fun d hd => h d (by simp [hd])

/-- Reading a byte after setting one, in a list with rising addresses. -/
theorem cellGet_cellSet (cs : List Host.Cell) (a : Nat) (b : Byte) (x : Nat)
    (h : cs.Pairwise fun c d => c.1 < d.1) :
    cellGet (cellSet cs a b) x = if x = a then b else cellGet cs x := by
  induction cs with
  | nil =>
    unfold cellSet
    split
    · next hb => subst hb; simp [cellGet]
    · simp only [cellGet_cons, eq_comm]
  | cons c cs ih =>
    obtain ⟨a', b'⟩ := c
    rw [List.pairwise_cons] at h
    have hgt : cellGet cs a' = Memory.unlisted := cellGet_of_all_gt cs a' h.1
    have hlt : a < a' → cellGet cs a = Memory.unlisted := fun hl =>
      cellGet_of_all_gt cs a fun d hd => Nat.lt_trans hl (h.1 d hd)
    unfold cellSet
    split
    · next hl =>
      split
      · next hb =>
        subst hb
        by_cases hx : x = a
        · subst hx; simp [cellGet_cons, hlt hl, Nat.ne_of_gt hl]
        · simp [hx]
      · simp only [cellGet_cons (a' := a), eq_comm]
    · split
      · next hl he =>
        subst he
        split
        · next hb =>
          subst hb
          by_cases hx : x = a
          · subst hx; simp [hgt]
          · simp [cellGet_cons, hx, Ne.symm hx]
        · by_cases hx : x = a
          · subst hx; simp [cellGet_cons]
          · simp [cellGet_cons, hx, Ne.symm hx]
      · next hl he =>
        rw [cellGet_cons, cellGet_cons, ih h.2]
        by_cases hx : x = a
        · subst hx; simp [Ne.symm he]
        · simp [hx]

/-- Every entry of a list after setting a byte is an old one or the new one. -/
theorem mem_cellSet (cs : List Host.Cell) (a : Nat) (b : Byte) (c : Host.Cell)
    (h : c ∈ cellSet cs a b) : c ∈ cs ∨ c = (a, b) ∧ b ≠ Memory.unlisted := by
  induction cs with
  | nil =>
    unfold cellSet at h
    split at h
    · simp at h
    · next hb => exact .inr ⟨by simpa using h, hb⟩
  | cons d cs ih =>
    obtain ⟨a', b'⟩ := d
    unfold cellSet at h
    split at h
    · split at h
      · exact .inl h
      · next hb => exact (List.mem_cons.1 h).elim (fun e => .inr ⟨e, hb⟩) .inl
    · split at h
      · split at h
        · exact .inl (List.mem_cons_of_mem _ h)
        · next hb =>
          exact (List.mem_cons.1 h).elim (fun e => .inr ⟨e, hb⟩)
            fun e => .inl (List.mem_cons_of_mem _ e)
      · exact (List.mem_cons.1 h).elim (fun e => .inl (e ▸ List.mem_cons_self))
          fun e => (ih e).imp (List.mem_cons_of_mem _) id

/-- Setting a byte keeps the addresses strictly rising. -/
theorem cellSet_pairwise (cs : List Host.Cell) (a : Nat) (b : Byte)
    (h : cs.Pairwise fun c d => c.1 < d.1) :
    (cellSet cs a b).Pairwise fun c d => c.1 < d.1 := by
  induction cs with
  | nil => unfold cellSet; split <;> simp
  | cons c cs ih =>
    obtain ⟨a', b'⟩ := c
    have h' := List.pairwise_cons.1 h
    unfold cellSet
    split
    · next hl =>
      split
      · exact h
      · refine List.pairwise_cons.2 ⟨fun d hd => ?_, h⟩
        rcases List.mem_cons.1 hd with rfl | hd
        · exact hl
        · exact Nat.lt_trans hl (h'.1 d hd)
    · split
      · next he =>
        subst he
        split
        · exact h'.2
        · exact List.pairwise_cons.2 ⟨h'.1, h'.2⟩
      · next hl he =>
        refine List.pairwise_cons.2 ⟨fun d hd => ?_, ih h'.2⟩
        rcases mem_cellSet cs a b d hd with hd | ⟨rfl, -⟩
        · exact h'.1 d hd
        · show a' < a; omega

/-! ### The store -/

@[simp] theorem write_len (m : Memory) (a : Nat) (b : Byte) :
    (m.write a b).len = max m.len (a + 1) := rfl

/-- Reading a byte after writing one: the value written there, every other byte as before. -/
theorem byteAt_write (m : Memory) (a : Nat) (b : Byte) (x : Nat) (h : m.wf) :
    (m.write a b).byteAt x = if x = a then b else m.byteAt x :=
  cellGet_cellSet m.cells a b x h.1

/-- A write keeps the canonical form. -/
theorem write_wf (m : Memory) (a : Nat) (b : Byte) (h : m.wf) : (m.write a b).wf := by
  refine ⟨cellSet_pairwise m.cells a b h.1, fun c hc => ?_⟩
  rcases mem_cellSet m.cells a b c hc with hc | ⟨rfl, hb⟩
  · have := h.2 c hc; exact ⟨this.1, by simp; omega⟩
  · exact ⟨hb, by simp⟩

/-- Writing several bytes keeps the canonical form. -/
theorem writeBytes_wf (m : Memory) (a : Nat) (bs : List Byte) (h : m.wf) : (m.writeBytes a bs).wf := by
  induction bs generalizing m a with
  | nil => exact h
  | cons b bs ih => exact ih (m.write a b) (a + 1) (write_wf m a b h)

/-- Appending keeps the canonical form. -/
theorem append_wf (m : Memory) (bs : List Byte) (h : m.wf) : (m.append bs).wf :=
  writeBytes_wf m m.len bs h

/-- The empty store is canonical. -/
theorem empty_wf : ({ len := 0, cells := [] } : Memory).wf := by simp [Memory.wf]

/-- A store built from bytes is canonical. -/
theorem ofBytes_wf (bs : List Byte) : (Memory.ofBytes bs).wf := append_wf _ bs empty_wf

/-- A store built from instructions is canonical. -/
theorem ofInstrs_wf (is : List Instr) : (Memory.ofInstrs is).wf := ofBytes_wf _

/-- The length after writing bytes. -/
theorem writeBytes_len (m : Memory) (a : Nat) (bs : List Byte) :
    (m.writeBytes a bs).len = if bs = [] then m.len else max m.len (a + bs.length) := by
  induction bs generalizing m a with
  | nil => rfl
  | cons b bs ih =>
    show ((m.write a b).writeBytes (a + 1) bs).len = _
    rw [ih]
    by_cases h : bs = []
    · simp [h]
    · simp only [h, if_false, write_len, List.length_cons, reduceCtorEq]; omega

/-- Reading a byte after writing bytes: those written at their places, every other byte as before. -/
theorem byteAt_writeBytes (m : Memory) (a : Nat) (bs : List Byte) (x : Nat) (h : m.wf) :
    (m.writeBytes a bs).byteAt x =
      if a ≤ x then (bs[x - a]?).getD (m.byteAt x) else m.byteAt x := by
  induction bs generalizing m a with
  | nil => show m.byteAt x = _; simp
  | cons b bs ih =>
    show ((m.write a b).writeBytes (a + 1) bs).byteAt x = _
    rw [ih _ _ (write_wf m a b h), byteAt_write m a b x h]
    rcases Nat.lt_trichotomy x a with hx | hx | hx
    · rw [if_neg (by omega), if_neg (by omega), if_neg (by omega)]
    · subst hx; simp
    · obtain ⟨k, rfl⟩ : ∃ k, x = a + 1 + k := ⟨x - (a + 1), by omega⟩
      have hk : a + 1 + k - a = k + 1 := by omega
      have hne : a + 1 + k ≠ a := by omega
      have hle : a ≤ a + 1 + k := by omega
      simp [hk, hne, hle]

@[simp] theorem ofBytes_len (bs : List Byte) : (Memory.ofBytes bs).len = bs.length := by
  rw [Memory.ofBytes, Memory.append, writeBytes_len]
  split
  · next h => simp [h]
  · simp

/-- The bytes of a store built from bytes. -/
theorem ofBytes_byteAt (bs : List Byte) (x : Nat) (h : x < bs.length) :
    (Memory.ofBytes bs).byteAt x = bs[x] := by
  rw [Memory.ofBytes, Memory.append, byteAt_writeBytes _ _ _ _ empty_wf]
  simp [h]

/-- What a read answers: the bytes if all of them lie in the store, nothing otherwise
(20_memory.md R24). -/
theorem read_eq_some (m : Memory) (a n : Nat) (bs : List Byte) (h : m.read a n = some bs) :
    a + n ≤ m.len ∧ bs = (List.range n).map fun k => m.byteAt (a + k) := by
  unfold Memory.read at h
  split at h
  · next hl => exact ⟨hl, by simpa using h.symm⟩
  · simp at h

end Sys2Proof.Machine
end

