-- ==== Sys2Proof/Laws/State.lean ====
section
/-! SUPPORT. What each state update does to each field, so that no later proof unfolds an update. -/

namespace Sys2Proof.Machine

/-! ### `emit` -/

@[simp] theorem emit_idx (f : Frame) (s : State) : (emit f s).idx = s.idx := rfl

@[simp] theorem emit_trkS (f : Frame) (s : State) : (emit f s).trkS = s.trkS := rfl

@[simp] theorem emit_trkA (f : Frame) (s : State) : (emit f s).trkA = s.trkA := rfl

@[simp] theorem emit_burst (f : Frame) (s : State) : (emit f s).burst = s.burst := rfl

@[simp] theorem emit_phase (f : Frame) (s : State) : (emit f s).phase = s.phase := rfl

@[simp] theorem emit_out (f : Frame) (s : State) : (emit f s).out = s.out ++ [f] := rfl

@[simp] theorem emit_src (f : Frame) (s : State) : (emit f s).src = s.src := rfl

@[simp] theorem emit_params (f : Frame) (s : State) : (emit f s).params = s.params := rfl

/-! ### `advance` -/

@[simp] theorem advance_idx (s : State) : (advance s).idx = s.idx + 1 := rfl

@[simp] theorem advance_trkS (s : State) : (advance s).trkS = s.trkS := rfl

@[simp] theorem advance_trkA (s : State) : (advance s).trkA = s.trkA := rfl

@[simp] theorem advance_burst (s : State) : (advance s).burst = s.burst := rfl

@[simp] theorem advance_phase (s : State) : (advance s).phase = s.phase := rfl

@[simp] theorem advance_out (s : State) : (advance s).out = s.out := rfl

@[simp] theorem advance_src (s : State) : (advance s).src = s.src := rfl

@[simp] theorem advance_params (s : State) : (advance s).params = s.params := rfl

/-! ### `setBurst` -/

@[simp] theorem setBurst_idx (b : Option Burst) (s : State) : (setBurst b s).idx = s.idx := rfl

@[simp] theorem setBurst_trkS (b : Option Burst) (s : State) : (setBurst b s).trkS = s.trkS := rfl

@[simp] theorem setBurst_trkA (b : Option Burst) (s : State) : (setBurst b s).trkA = s.trkA := rfl

@[simp] theorem setBurst_burst (b : Option Burst) (s : State) : (setBurst b s).burst = b := rfl

@[simp] theorem setBurst_phase (b : Option Burst) (s : State) : (setBurst b s).phase = s.phase := rfl

@[simp] theorem setBurst_out (b : Option Burst) (s : State) : (setBurst b s).out = s.out := rfl

@[simp] theorem setBurst_src (b : Option Burst) (s : State) : (setBurst b s).src = s.src := rfl

@[simp] theorem setBurst_params (b : Option Burst) (s : State) : (setBurst b s).params = s.params := rfl

/-! ### `setPhase` -/

@[simp] theorem setPhase_idx (p : Phase) (s : State) : (setPhase p s).idx = s.idx := rfl

@[simp] theorem setPhase_trkS (p : Phase) (s : State) : (setPhase p s).trkS = s.trkS := rfl

@[simp] theorem setPhase_trkA (p : Phase) (s : State) : (setPhase p s).trkA = s.trkA := rfl

@[simp] theorem setPhase_burst (p : Phase) (s : State) : (setPhase p s).burst = s.burst := rfl

@[simp] theorem setPhase_phase (p : Phase) (s : State) : (setPhase p s).phase = p := rfl

@[simp] theorem setPhase_out (p : Phase) (s : State) : (setPhase p s).out = s.out := rfl

@[simp] theorem setPhase_src (p : Phase) (s : State) : (setPhase p s).src = s.src := rfl

@[simp] theorem setPhase_params (p : Phase) (s : State) : (setPhase p s).params = s.params := rfl

/-! ### `setTracker` -/

@[simp] theorem setTracker_idx (c : RegClass) (t : Tracker) (s : State) :
    (setTracker c t s).idx = s.idx := by
  unfold setTracker; split <;> rfl

@[simp] theorem setTracker_trkS (c : RegClass) (t : Tracker) (s : State) :
    (setTracker c t s).trkS = if c = .cStat then some t else s.trkS := by
  unfold setTracker; split <;> rfl

@[simp] theorem setTracker_trkA (c : RegClass) (t : Tracker) (s : State) :
    (setTracker c t s).trkA = if c = .cStat then s.trkA else some t := by
  unfold setTracker; split <;> rfl

@[simp] theorem setTracker_burst (c : RegClass) (t : Tracker) (s : State) :
    (setTracker c t s).burst = s.burst := by
  unfold setTracker; split <;> rfl

@[simp] theorem setTracker_phase (c : RegClass) (t : Tracker) (s : State) :
    (setTracker c t s).phase = s.phase := by
  unfold setTracker; split <;> rfl

@[simp] theorem setTracker_out (c : RegClass) (t : Tracker) (s : State) :
    (setTracker c t s).out = s.out := by
  unfold setTracker; split <;> rfl

@[simp] theorem setTracker_src (c : RegClass) (t : Tracker) (s : State) :
    (setTracker c t s).src = s.src := by
  unfold setTracker; split <;> rfl

@[simp] theorem setTracker_params (c : RegClass) (t : Tracker) (s : State) :
    (setTracker c t s).params = s.params := by
  unfold setTracker; split <;> rfl

/-! ### `withFetchWord` -/

@[simp] theorem withFetchWord_idx (s : State) (n w : Nat) : (s.withFetchWord n w).idx = s.idx := rfl

@[simp] theorem withFetchWord_trkS (s : State) (n w : Nat) : (s.withFetchWord n w).trkS = s.trkS := rfl

@[simp] theorem withFetchWord_trkA (s : State) (n w : Nat) : (s.withFetchWord n w).trkA = s.trkA := rfl

@[simp] theorem withFetchWord_burst (s : State) (n w : Nat) : (s.withFetchWord n w).burst = s.burst := rfl

@[simp] theorem withFetchWord_phase (s : State) (n w : Nat) : (s.withFetchWord n w).phase = s.phase := rfl

@[simp] theorem withFetchWord_out (s : State) (n w : Nat) : (s.withFetchWord n w).out = s.out := rfl

@[simp] theorem withFetchWord_params (s : State) (n w : Nat) : (s.withFetchWord n w).params = s.params := rfl

end Sys2Proof.Machine
end

