-- ==== Sys2Proof/Laws/Ops.lean ====
section
/-! SUPPORT. For each shared operation, one lemma that says once everything it does. -/

namespace Sys2Proof.Machine

open Sys2Proof.Safety

@[simp] theorem burstFrames_none : burstFrames none = [] := rfl

@[simp] theorem burstFrames_some (b : Burst) : burstFrames (some b) = [closeBurst b] := rfl

/-- The length of what a close emits. -/
theorem burstFrames_length_le (b : Option Burst) : (burstFrames b).length ≤ 1 := by
  cases b <;> simp

/-- Closing the burst emits its frame, if one is open, and leaves none open (44_data_burst.md R83). -/
theorem flushBurst_eq (s : State) :
    flushBurst s = { s with burst := none, out := s.out ++ burstFrames s.burst } := by
  unfold flushBurst
  cases h : s.burst with
  | none => cases s; simp_all
  | some b => rfl

/-- The duplicate step moves the marker in either case; the verdict is the test (R75 to R77). -/
theorem dupStep_eq (c : RegClass) (smp : Sample) (s : State) :
    dupStep c smp s =
      (if isDuplicate (trackerOf c s) s.idx smp.data then .suppressed else .emitted,
        setTracker c { lastIdx := s.idx, lastData := smp.data } s) := by
  unfold dupStep
  split <;> rfl

/-- The duplicate test (R75). -/
theorem isDuplicate_iff (t : Option Tracker) (i : Nat) (d : Half) :
    isDuplicate t i d = true ↔
      ∃ li, t = some { lastIdx := li, lastData := d } ∧ i = li + 1 := by
  cases t with
  | none => simp [isDuplicate]
  | some t =>
    obtain ⟨li, ld⟩ := t
    simp only [isDuplicate, Bool.and_eq_true, beq_iff_eq, Option.some.injEq, Tracker.mk.injEq]
    constructor
    · rintro ⟨rfl, rfl⟩; exact ⟨li, ⟨rfl, rfl⟩, rfl⟩
    · rintro ⟨l, ⟨rfl, rfl⟩, rfl⟩; exact ⟨rfl, rfl⟩

/-- Which accesses are candidates (R74). -/
theorem isDupCandidate_iff (c : RegClass) (r : Bool) :
    isDupCandidate c r = true ↔ r = true ∧ (c = .cStat ∨ c = .cAlt) := by
  simp [isDupCandidate]

/-- The access is suppressed: a candidate that its tracker calls a duplicate. -/
def isSuppressed (s : State) (c : RegClass) (isRead : Bool) (d : Half) : Bool :=
  isDupCandidate c isRead && isDuplicate (trackerOf c s) s.idx d

/-- Everything a non-DATA access does (45_sample_classes.md R91). -/
theorem regSample_eq (smp : Sample) (r : Bool) (c : RegClass) (s : State) :
    regSample smp r c s =
      { s with
        idx := s.idx + 1
        burst := none
        trkS := if isDupCandidate c r ∧ c = .cStat
          then some { lastIdx := s.idx, lastData := smp.data } else s.trkS
        trkA := if isDupCandidate c r ∧ c ≠ .cStat
          then some { lastIdx := s.idx, lastData := smp.data } else s.trkA
        out := s.out ++ (burstFrames s.burst ++
          if isSuppressed s c r smp.data then [] else [.fReg (regFrame s.params smp r s.idx)]) } := by
  unfold regSample isSuppressed
  rw [flushBurst_eq]
  by_cases hc : isDupCandidate c r
  · rw [if_pos hc, dupStep_eq]
    have ht : trackerOf c { s with burst := none, out := s.out ++ burstFrames s.burst } =
        trackerOf c s := rfl
    rw [ht]
    by_cases hs : c = .cStat <;> by_cases hd : isDuplicate (trackerOf c s) s.idx smp.data <;>
      simp [hc, hs, hd, advance, emitReg, emit, setTracker] <;> simp_all
  · simp [hc, advance, emitReg, emit]

/-- Everything a DATA access does (45_sample_classes.md R91). -/
theorem dataSample_eq (smp : Sample) (r : Bool) (s : State) :
    dataSample smp r s =
      { s with idx := s.idx + 1, burst := some (absorb s.idx r smp.data s.burst) } := rfl

/-- Steps 2 to 6: a DATA access or another (46_decoder_step.md R114). -/
theorem access_eq (smp : Sample) (s : State) :
    access smp s =
      if classOf s.params smp.address = .cData then dataSample smp (isReadSample smp) s
      else regSample smp (isReadSample smp) (classOf s.params smp.address) s := by
  unfold access
  split
  · next h => rw [if_pos h]
  · next h => rw [if_neg h]

/-- Everything a framing error does (60_exceptions.md R152). -/
theorem takeException_framingError (smp : Sample) (s : State) :
    takeException (.framingError smp) s =
      { s with idx := s.idx + 1, out := s.out ++
        [.fFraming { idx := s.idx, sample := smp, cat := .catError }] } := rfl

/-- Everything a truncated record does (60_exceptions.md R153). -/
theorem takeException_truncatedRecord (k : Nat) (s : State) :
    takeException (.truncatedRecord k) s =
      { s with phase := .failed, out := s.out ++
        [.fIoErr { idx := s.idx, strayBytes := k, cat := .catError }] } := rfl

/-- Everything the end of input does (46_decoder_step.md R116). -/
theorem endOfInput_eq (s : State) :
    endOfInput s =
      { s with burst := none, phase := .done, out := s.out ++ burstFrames s.burst } := by
  unfold endOfInput
  rw [flushBurst_eq]; rfl

/-- Everything a truncated tail does (46_decoder_step.md R117). -/
theorem truncated_eq (k : Nat) (s : State) :
    truncated k s =
      { s with
        burst := if s.params.flushOnTruncation then none else s.burst
        phase := .failed
        out := s.out ++ ((if s.params.flushOnTruncation then burstFrames s.burst else []) ++
          [.fIoErr { idx := s.idx, strayBytes := k, cat := .catError }]) } := by
  unfold truncated
  rw [flushBurst_eq, takeException_truncatedRecord]
  by_cases h : s.params.flushOnTruncation <;> simp [h]

/-- A live pass takes the effect. -/
theorem inRun_run (s : State) (f : State → State) (h : s.phase = .run) : inRun s f = .next (f s) := by
  unfold inRun; rw [h]

/-- Outside `RUN` nothing is consumed (46_decoder_step.md R118). -/
theorem inRun_over (s : State) (f : State → State) (h : s.phase ≠ .run) :
    inRun s f = .fault .passOver := by
  unfold inRun
  split <;> simp_all

/-- What an answered next state says. -/
theorem inRun_next (s t : State) (f : State → State) (h : inRun s f = .next t) :
    s.phase = .run ∧ t = f s := by
  unfold inRun at h
  split at h
  · next hp => injection h with h; exact ⟨hp, h.symm⟩
  · simp at h
  · simp at h

end Sys2Proof.Machine
end

