-- ==== Sys2Proof/Laws/Step.lean ====
section
/-! SUPPORT. What `exec` and `step` are, said once: later proofs cite these and unfold neither. -/

namespace Sys2Proof.Machine

open Sys2Proof.Safety

/-- The effect of a record on a live pass: the framing check first (46_decoder_step.md R114). -/
def recordEffect (smp : Sample) (s : State) : State :=
  if isFraming smp then takeException (.framingError smp) s else access smp s

/-- Every instruction does what its own sample calls for. -/
theorem exec_eq (i : Instr) (s : State) : exec i s = inRun s (recordEffect i.sample) := by
  cases i <;> rfl

/-- What a record can do: a framing error, a DATA sample, or another access. -/
theorem recordEffect_cases (smp : Sample) (s : State) :
    (isFraming smp = true ∧ recordEffect smp s = takeException (.framingError smp) s) ∨
      (isFraming smp = false ∧ classOf s.params smp.address = .cData ∧
        recordEffect smp s = dataSample smp (isReadSample smp) s) ∨
      (isFraming smp = false ∧ classOf s.params smp.address ≠ .cData ∧
        recordEffect smp s = regSample smp (isReadSample smp) (classOf s.params smp.address) s) := by
  unfold recordEffect
  cases h : isFraming smp
  · rw [access_eq]
    by_cases hc : classOf s.params smp.address = .cData
    · exact .inr (.inl ⟨rfl, hc, by simp [hc]⟩)
    · exact .inr (.inr ⟨rfl, hc, by simp [hc]⟩)
  · exact .inl ⟨rfl, by simp⟩

/-- What a read access does (46_decoder_step.md R114). -/
theorem recordEffect_readSample (a : AddrCode) (d : Half) (s : State) :
    recordEffect (readSample a d) s =
      if classOf s.params a = .cData then dataSample (readSample a d) true s
      else regSample (readSample a d) true (classOf s.params a) s :=
  access_eq (readSample a d) s

/-- What a write access does (46_decoder_step.md R114). -/
theorem recordEffect_writeSample (a : AddrCode) (d : Half) (s : State) :
    recordEffect (writeSample a d) s =
      if classOf s.params a = .cData then dataSample (writeSample a d) false s
      else regSample (writeSample a d) false (classOf s.params a) s :=
  access_eq (writeSample a d) s

/-- The record at the fetch position is the sample of the store there. -/
theorem nextItem_eq_sampleAt (m : Memory) (i : Nat) (h : 4 * i + 4 ≤ m.len) :
    nextItem m i = some (.record (Instr.ofSample (sampleAt m i))) := by
  rw [nextItem_eq, if_neg (by omega), if_pos h]; rfl

/-- What a step that answers a next state did: it consumed a record, the end, or a truncated tail. -/
theorem step_cases (s t : State) (h : step s = .next t) :
    s.phase = .run ∧
      ((4 * s.idx + 4 ≤ s.src.len ∧
          exec (Instr.ofSample (sampleAt s.src s.idx)) s = .next t) ∨
        (s.src.len = 4 * s.idx ∧ t = endOfInput s) ∨
        (4 * s.idx < s.src.len ∧ s.src.len < 4 * s.idx + 4 ∧
          t = truncated (s.src.len - 4 * s.idx) s)) := by
  unfold step at h
  split at h
  · next hp =>
    refine ⟨hp, ?_⟩
    rw [nextItem_eq] at h
    by_cases h1 : s.src.len < 4 * s.idx
    · simp [h1] at h
    · rw [if_neg h1] at h
      by_cases h4 : 4 * s.idx + 4 ≤ s.src.len
      · rw [if_pos h4] at h; exact .inl ⟨h4, h⟩
      · rw [if_neg h4] at h
        by_cases h0 : s.src.len = 4 * s.idx
        · rw [if_pos h0] at h; exact .inr (.inl ⟨h0, (inRun_next _ _ _ h).2⟩)
        · rw [if_neg h0] at h
          exact .inr (.inr ⟨by omega, by omega, (inRun_next _ _ _ h).2⟩)
  · simp at h
  · simp at h

/-- A read row carries its own address code. -/
theorem readRows_sample (a : AddrCode) (d : Half) :
    (readRows.get a.toFin d).sample = readSample a d := by
  obtain ⟨k⟩ := a
  fin_cases k <;> rfl

/-- A write row carries its own address code. -/
theorem writeRows_sample (a : AddrCode) (d : Half) :
    (writeRows.get a.toFin d).sample = writeSample a d := by
  obtain ⟨k⟩ := a
  fin_cases k <;> rfl

/-- The sample of the row a sample selects is that sample. -/
theorem sample_ofSample (s : Sample) : (Instr.ofSample s).sample = s := by
  obtain ⟨d, a, r, w⟩ := s
  have h2 : ∀ x : Strobe, x = 0#1 ∨ x = 1#1 := by decide
  unfold Instr.ofSample
  rcases h2 r with rfl | rfl <;> rcases h2 w with rfl | rfl
  · simp [Instr.sample]
  · simp [readRows_sample, readSample]
  · simp [writeRows_sample, writeSample]
  · simp [Instr.sample]

end Sys2Proof.Machine
end

