-- ==== Sys2Proof/Tests/Slice0.lean ====
section
/-! SUPPORT. Tests: the decoding of every row from written-out words, the ill-formed terms the checks of
WellFormed refuse, the worked examples of the spec, and for each statement with hypotheses a state and
operands that meet them. Expected values are those of the spec's tables and examples. -/

namespace Sys2Proof.Tests

open Sys2Proof.Machine Sys2Proof.Safety

/-! ### Helpers -/

/-- The start of a pass over the records `is` and then the bytes `stray`. -/
def start (is : List Instr) (stray : List Byte) : State :=
  { State.reset with src := Memory.append (Memory.ofInstrs is) stray }

/-- The state after `k` steps of that pass. -/
def after (k : Nat) (is : List Instr) (stray : List Byte) : State :=
  match Host.Core.run Sys2Proof.core k (start is stray) with
  | .next (t : State) => t
  | _ => State.reset

/-- The state of a pass at index `i` with the burst `b`. -/
def at_ (i : Nat) (b : Option Burst) : State := { State.reset with idx := i, burst := b }

/-- The frames and the burst after a step that has a next state. -/
def result : Host.Outcome State Fault Refusal → Option (List Frame × Option Burst)
  | .next t => some (t.out, t.burst)
  | _ => none

/-- There is a next state. -/
def hasNext : Host.Outcome State Fault Refusal → Bool
  | .next _ => true
  | _ => false

/-- What `hasNext` says. -/
theorem hasNext_iff (o : Host.Outcome State Fault Refusal) : hasNext o = true ↔ ∃ t, o = .next t := by
  cases o <;> simp [hasNext]

/-- The two trackers after a step that has a next state. -/
def trackers : Host.Outcome State Fault Refusal → Option (Option Tracker × Option Tracker)
  | .next t => some (t.trkS, t.trkA)
  | _ => none

/-- The eight Booleans of a breakdown written as in the spec, most significant first. -/
def bits (b : BitVec 8) : Vector Bool 8 :=
  #v[b.getLsbD 7, b.getLsbD 6, b.getLsbD 5, b.getLsbD 4, b.getLsbD 3, b.getLsbD 2, b.getLsbD 1,
    b.getLsbD 0]

/-- The state has the fields of a running pass that every row's statement asks for. -/
abbrev Runs (s : State) : Prop := s.phase = .run

/-! ### Decoding, the words written out from 45_sample_classes.md and spec/opcode_table.json -/

theorem test_decode_framing :
    ([0x0010FFFF#32, 0x0310FFFF#32, 0xFCFF0001#32] : List Word).map decodeWord =
      [.framingFe0 0x10#5 0xFFFF#16, .framingFe1 0x10#5 0xFFFF#16, .framingFe0 0x1F#5 0x0001#16] := by
  decide

theorem test_decode_data :
    ([0x02101234#32, 0x0110A000#32] : List Word).map decodeWord =
      [.rdData 0x1234#16, .wrData 0xA000#16] := by decide

theorem test_decode_task_file :
    ([0x02110004#32, 0x01110003#32, 0x02120001#32, 0x01120001#32, 0x02130041#32, 0x01130000#32,
      0x02140014#32, 0x01140000#32, 0x021500EB#32, 0x01150000#32, 0x021600E0#32,
      0x011600E0#32] : List Word).map decodeWord =
      [.rdError 0x0004#16, .wrFeatures 0x0003#16, .rdSectorCount 0x0001#16, .wrSectorCount 0x0001#16,
        .rdLbaLow 0x0041#16, .wrLbaLow 0x0000#16, .rdLbaMid 0x0014#16, .wrLbaMid 0x0000#16,
        .rdLbaHigh 0x00EB#16, .wrLbaHigh 0x0000#16, .rdDevice 0x00E0#16, .wrDevice 0x00E0#16] := by
  decide

theorem test_decode_status :
    ([0x02170050#32, 0x011700EC#32, 0x020E00D0#32, 0x010E0004#32, 0xFEF70050#32] : List Word).map
      decodeWord =
      [.rdStatus 0x0050#16, .wrCommand 0x00EC#16, .rdAltStatus 0x00D0#16, .wrDeviceControl 0x0004#16,
        .rdStatus 0x0050#16] := by decide

theorem test_decode_unknown_reads :
    ([
      0x02000041#32, 0x02011142#32, 0x02022243#32, 0x02033344#32, 0x02044445#32,
      0x02055546#32, 0x02066647#32, 0x02070048#32, 0x02081149#32, 0x0209224A#32,
      0x020A334B#32, 0x020B444C#32, 0x020C554D#32, 0x020D664E#32, 0x020F004F#32,
      0x02181150#32, 0x02192251#32, 0x021A3352#32, 0x021B4453#32, 0x021C5554#32,
      0x021D6655#32, 0x021E0056#32, 0x021F1157#32] : List Word).map decodeWord = [
      .rdUnknown00 0x0041#16, .rdUnknown01 0x1142#16, .rdUnknown02 0x2243#16, .rdUnknown03 0x3344#16,
      .rdUnknown04 0x4445#16, .rdUnknown05 0x5546#16, .rdUnknown06 0x6647#16, .rdUnknown07 0x0048#16,
      .rdUnknown08 0x1149#16, .rdUnknown09 0x224A#16, .rdUnknown0A 0x334B#16, .rdUnknown0B 0x444C#16,
      .rdUnknown0C 0x554D#16, .rdUnknown0D 0x664E#16, .rdUnknown0F 0x004F#16, .rdUnknown18 0x1150#16,
      .rdUnknown19 0x2251#16, .rdUnknown1A 0x3352#16, .rdUnknown1B 0x4453#16, .rdUnknown1C 0x5554#16,
      .rdUnknown1D 0x6655#16, .rdUnknown1E 0x0056#16, .rdUnknown1F 0x1157#16] := by
  decide

theorem test_decode_unknown_writes :
    ([
      0x01000080#32, 0x01011181#32, 0x01022282#32, 0x01033383#32, 0x01044484#32,
      0x01055585#32, 0x01066686#32, 0x01070087#32, 0x01081188#32, 0x01092289#32,
      0x010A338A#32, 0x010B448B#32, 0x010C558C#32, 0x010D668D#32, 0x010F008E#32,
      0x0118118F#32, 0x01192290#32, 0x011A3391#32, 0x011B4492#32, 0x011C5593#32,
      0x011D6694#32, 0x011E0095#32, 0x011F1196#32] : List Word).map decodeWord = [
      .wrUnknown00 0x0080#16, .wrUnknown01 0x1181#16, .wrUnknown02 0x2282#16, .wrUnknown03 0x3383#16,
      .wrUnknown04 0x4484#16, .wrUnknown05 0x5585#16, .wrUnknown06 0x6686#16, .wrUnknown07 0x0087#16,
      .wrUnknown08 0x1188#16, .wrUnknown09 0x2289#16, .wrUnknown0A 0x338A#16, .wrUnknown0B 0x448B#16,
      .wrUnknown0C 0x558C#16, .wrUnknown0D 0x668D#16, .wrUnknown0F 0x008E#16, .wrUnknown18 0x118F#16,
      .wrUnknown19 0x2290#16, .wrUnknown1A 0x3391#16, .wrUnknown1B 0x4492#16, .wrUnknown1C 0x5593#16,
      .wrUnknown1D 0x6694#16, .wrUnknown1E 0x0095#16, .wrUnknown1F 0x1196#16] := by
  decide

/-- The four bytes `50 00 17 02`, in store order, and what follows them (R46, R62, R65). -/
theorem test_decode_bytes :
    decode [0x50#8, 0x00#8, 0x17#8, 0x02#8, 0xAA#8] = .ok (.rdStatus 0x0050#16, [0xAA#8]) ∧
      encode (.rdStatus 0x0050#16) = [0x50#8, 0x00#8, 0x17#8, 0x02#8] ∧
      decode [] = .error .endOfSequence ∧
      decode [0x50#8, 0x00#8, 0x17#8] = .error (.truncatedRecord 3) := by decide

/-- The rows of the model's table are those of spec/opcode_table.json in number, and distinct. -/
theorem test_opcode_table : opcodeTable.length = 66 ∧ (opcodeTable.map (·.mnemonic)).Nodup := by
  decide

theorem test_decode_table_word :
    decodeTableWord 32 0x010E0004 = some (.wrDeviceControl 0x0004#16) ∧
      decodeTableWord 33 0x010E0004 = none := by decide

theorem test_fetch_word_runs :
    result (step (State.reset.withFetchWord 32 0x01130041)) =
      some ([line 0 0x0041#16 false .lbaLow .aNone .catWrite], none) := by decide

/-! ### Ill-formed terms -/

theorem test_reserved_bits_refused :
    Word.canonical 0xFEF70050#32 = false ∧ Word.canonical 0x02170050#32 = true := by decide

theorem test_equal_strobes_refused :
    Sample.valid { data := 0#16, address := 0#5, dior := 1#1, diow := 1#1 } = false ∧
      Sample.valid { data := 0#16, address := 0#5, dior := 0#1, diow := 0#1 } = false ∧
      Sample.valid (readSample 0#5 0#16) = true := by decide

/-- A map with a class twice and one with a class missing (40_register_map.md R58). -/
theorem test_bad_maps_refused :
    ({ defaultParams with addrMap := defaultParams.addrMap.set 0 .cData }).wellFormed = false ∧
      ({ defaultParams with addrMap := defaultParams.addrMap.set 0x10 .cUnknown }).wellFormed = false ∧
      defaultParams.wellFormed = true := by decide

/-! ### The sample notation (R46) -/

theorem test_read_line :
    (readLine "RD STATUS, 0x0050".toList).bind (assemble defaultParams) = some 0x02170050#32 ∧
      (readLine "WR STATUS, 0xEC".toList).bind (assemble defaultParams) = some 0x011700EC#32 ∧
      (readLine "FE1 @0x10, 0xFFFF".toList).bind (assemble defaultParams) = some 0x0310FFFF#32 := by
  decide

theorem test_read_line_refused :
    readLine "RD @0x20, 0x0000".toList = none ∧ readLine "RD STATUS, 0x10000".toList = none ∧
      readLine "FE0 STATUS, 0x0000".toList = none := by decide

/-- Under a map with two DATA codes no name assembles, not even one whose own class has one code; a raw
code does (93 U12; log 17). -/
theorem test_names_refused :
    let p := { defaultParams with addrMap := defaultParams.addrMap.set 0 .cData }
    assemble p (.rd .data 0#16) = none ∧ assemble p (.wr .status 0#16) = none ∧
      assemble p (.rd (.unknown 0x05#5) 0#16) = some 0x02050000#32 := by decide

/-! ### The examples of 45_sample_classes.md -/

theorem test_framing : result (exec (.framingFe1 0x10#5 0xFFFF#16) (at_ 7 none)) =
    some ([.fFraming ⟨7, ⟨0xFFFF#16, 0x10#5, 1#1, 1#1⟩, .catError⟩], none) := by decide

theorem test_rd_data : result (exec (.rdData 0x1234#16) (at_ 2 none)) =
    some ([], some { start := 2, isRead := true, buf := [0x1234#16] }) := by decide

theorem test_wr_data :
    result (exec (.wrData 0xA000#16)
      (at_ 9 (some { start := 8, isRead := false, buf := [0x0000#16] }))) =
    some ([], some { start := 8, isRead := false, buf := [0x0000#16, 0xA000#16] }) := by decide

theorem test_rd_error : result (exec (.rdError 0x0004#16) (at_ 5 none)) =
    some ([.fReg ⟨5, 0x04#8, '.', true, .error,
      .aFlags .vocError (bits 0b00000100#8), .catError⟩], none) := by decide

theorem test_wr_features : result (exec (.wrFeatures 0x0003#16) (at_ 0 none)) =
    some ([.fReg ⟨0, 0x03#8, '.', false, .features,
      .aNone, .catWrite⟩], none) := by decide

theorem test_rd_sector_count : result (exec (.rdSectorCount 0x0001#16) (at_ 3 none)) =
    some ([.fReg ⟨3, 0x01#8, '.', true, .sectorCount,
      .aNone, .catRead⟩], none) := by decide

theorem test_rd_lba_low : result (exec (.rdLbaLow 0x0041#16) (at_ 4 none)) =
    some ([.fReg ⟨4, 0x41#8, 'A', true, .lbaLow,
      .aNone, .catRead⟩], none) := by decide

theorem test_rd_lba_high : result (exec (.rdLbaHigh 0x00EB#16) (at_ 7 none)) =
    some ([.fReg ⟨7, 0xEB#8, '.', true, .lbaHigh,
      .aNone, .catRead⟩], none) := by decide

theorem test_wr_device : result (exec (.wrDevice 0x00E0#16) (at_ 5 none)) =
    some ([.fReg ⟨5, 0xE0#8, '.', false, .device,
      .aNone, .catWrite⟩], none) := by decide

theorem test_rd_status : result (exec (.rdStatus 0x0050#16) (at_ 0 none)) =
    some ([.fReg ⟨0, 0x50#8, 'P', true, .status,
      .aFlags .vocStatus (bits 0b01010000#8), .catStatus⟩], none) := by decide

/-- The same bytes again at index 1: nothing emitted, the marker moved (R107). -/
theorem test_rd_status_again :
    (after 2 [.rdStatus 0x0050#16, .rdStatus 0x0050#16] []).out.length = 1 ∧
      (after 2 [.rdStatus 0x0050#16, .rdStatus 0x0050#16] []).trkS =
        some { lastIdx := 1, lastData := 0x0050#16 } := by decide

/-- Equal low bytes with different high bytes are not duplicates (R107). -/
theorem test_rd_status_high_byte :
    (after 2 [.rdStatus 0x0050#16, .rdStatus 0x0150#16] []).out.length = 2 := by decide

theorem test_wr_command :
    result (exec (.wrCommand 0x00EC#16)
      { at_ 6 none with params := { defaultParams with cmdNames := [(0xEC#8, "IDENTIFY DEVICE")] } }) =
    some ([.fReg ⟨6, 0xEC#8, '.', false, .command,
      .aCmd 0xEC#8 "IDENTIFY DEVICE", .catWrite⟩], none) := by decide

theorem test_wr_command_unknown : result (exec (.wrCommand 0x00EC#16) (at_ 6 none)) =
    some ([.fReg ⟨6, 0xEC#8, '.', false, .command,
      .aCmd 0xEC#8 "UNKNOWN", .catWrite⟩], none) := by decide

theorem test_rd_alt_status : result (exec (.rdAltStatus 0x00D0#16) (at_ 10 none)) =
    some ([.fReg ⟨10, 0xD0#8, '.', true, .altStatus,
      .aFlags .vocStatus (bits 0b11010000#8), .catStatus⟩], none) := by decide

theorem test_rd_alt_status_tracker : trackers (exec (.rdAltStatus 0x00D0#16) (at_ 10 none)) =
    some (none, some { lastIdx := 10, lastData := 0x00D0#16 }) := by decide

theorem test_wr_device_control : result (exec (.wrDeviceControl 0x0004#16) (at_ 0 none)) =
    some ([.fReg ⟨0, 0x04#8, '.', false, .deviceControl,
      .aNone, .catWrite⟩], none) := by decide

theorem test_rd_unknown : result (exec (.rdUnknown0F 0x007F#16) (at_ 12 none)) =
    some ([.fReg ⟨12, 0x7F#8, '.', true, .unknown 0x0F#5,
      .aNone, .catRead⟩], none) := by decide

theorem test_wr_unknown : result (exec (.wrUnknown00 0x007E#16) (at_ 13 none)) =
    some ([.fReg ⟨13, 0x7E#8, '~', false, .unknown 0x00#5,
      .aNone, .catWrite⟩], none) := by decide

/-- The worked example of 44_data_burst.md: the frame of `open(2, true, [0x1234, 0x5678])`. -/
theorem test_close_burst :
    closeBurst { start := 2, isRead := true, buf := [0x1234#16, 0x5678#16] } =
      .fBurst ⟨2, true, 4, [⟨0, [0x34#8, 0x12#8, 0x78#8, 0x56#8], ['4', '.', 'x', 'V']⟩], .catRead⟩ := by decide

/-- 0x50 = DRDY, DSC (95_test_vectors.md W1). -/
theorem test_status_flags : statusFlags defaultParams 0x50#8 =
    [.placeholder, .name "DRDY", .placeholder, .name "DSC", .placeholder, .placeholder, .placeholder,
      .placeholder] := by decide

/-! ### Witnesses: operands and states that meet the hypotheses of the statements -/

theorem witness_AssembledLineWord :
    codeOfName defaultParams .status = some 0x17#5 ∧ codeOfName defaultParams .altStatus = some 0x0E#5 ∧
      codeOfName defaultParams (.unknown 0x1F#5) = some 0x1F#5 ∧
      RegName.status ≠ .unknown 0x17#5 := by decide

/-- A map of each clause: the default one, one with two DATA codes, one with no DATA code. -/
theorem witness_NamesDenoteOneCode :
    defaultParams.wellFormed = true ∧
      ({ defaultParams with addrMap := defaultParams.addrMap.set 0 .cData }).wellFormed = false ∧
      ({ defaultParams with addrMap := defaultParams.addrMap.set 0x10 .cUnknown }).wellFormed = false ∧
      ∀ a : AddrCode, RegName.data ≠ .unknown a := by
  refine ⟨by decide, by decide, by decide, fun a h => ?_⟩
  cases h

/-- Each clause at the edges of its range: 4 bytes left, none, 1, 3, and beyond the end. -/
theorem witness_NextItemOutcomes :
    4 * 0 + 4 ≤ (start [.rdData 1#16] []).src.len ∧ (start [.rdData 1#16] []).src.len = 4 * 1 ∧
      (start [] [0x11#8]).src.len = 4 * 0 + 1 ∧
      (start [.rdData 1#16] [0x11#8, 0x22#8, 0x33#8]).src.len = 4 * 1 + 3 ∧
      (start [] [0x11#8, 0x22#8, 0x33#8]).src.len < 4 * 1 := by decide

theorem witness_StoreOfInstrsIsFetchedInOrder :
    0 ≤ ([] : List Instr).length ∧ 1 ≤ [Instr.rdData 1#16, .wrData 2#16].length ∧
      2 ≤ [Instr.rdData 1#16, .wrData 2#16].length := by decide

theorem witness_StepRunsTheDecodedRecord :
    (start [.rdStatus 0x0050#16] []).src.read (4 * (start [.rdStatus 0x0050#16] []).idx) 4 =
        some [0x50#8, 0x00#8, 0x17#8, 0x02#8] ∧
      decode [0x50#8, 0x00#8, 0x17#8, 0x02#8] = .ok (.rdStatus 0x0050#16, []) := by decide

theorem witness_EveryRecordCompletes : Runs State.reset ∧ Runs (at_ 3 none) := by decide

theorem witness_EndOfInputFlushesAndIsDone :
    (Runs State.reset ∧ State.reset.src.len = 4 * State.reset.idx) ∧
      Runs (after 1 [.rdData 1#16] []) ∧
      (after 1 [.rdData 1#16] []).src.len = 4 * (after 1 [.rdData 1#16] []).idx ∧
      (after 1 [.rdData 1#16] []).burst ≠ none := by decide

/-- Both values of the parameter, 1 and 3 stray bytes, with a burst open. -/
theorem witness_TruncatedTailFails :
    (Runs (after 1 [.rdData 1#16] [0x11#8]) ∧
      (after 1 [.rdData 1#16] [0x11#8]).src.len = 4 * (after 1 [.rdData 1#16] [0x11#8]).idx + 1 ∧
      (after 1 [.rdData 1#16] [0x11#8]).params.flushOnTruncation = false) ∧
    (Runs { start [] [0x11#8, 0x22#8, 0x33#8] with
        params := { defaultParams with flushOnTruncation := true } } ∧
      (start [] [0x11#8, 0x22#8, 0x33#8]).src.len = 4 * 0 + 3) := by decide

theorem witness_NoStepAfterThePass :
    (after 1 [] []).phase = .done ∧ (after 1 [] [0x11#8]).phase = .failed ∧
      Phase.done ≠ .run ∧ Phase.failed ≠ .run := by decide

theorem witness_FramingErrorIsReportedOnly :
    (0xFCFFFFFF#32 : Word) &&& 0x03000000#32 = 0x00000000#32 ∧
      (0x03000000#32 : Word) &&& 0x03000000#32 = 0x03000000#32 ∧ Runs State.reset := by decide

/-- A word of each side of the equivalence, with the next state it has. -/
theorem witness_FramingFrameIffStrobesEqual :
    (∃ t, exec (decodeWord 0x0310FFFF#32) State.reset = .next t) ∧
      ∃ t, exec (decodeWord 0x02170050#32) State.reset = .next t := ⟨⟨_, rfl⟩, ⟨_, rfl⟩⟩

/-- No burst open; and a burst of the other direction open. -/
theorem witness_ReadDataIsAbsorbed :
    (Runs State.reset ∧ classOf State.reset.params 0x10#5 = .cData ∧ State.reset.burst = none) ∧
      Runs (at_ 1 (some { start := 0, isRead := false, buf := [0#16] })) ∧
      (at_ 1 (some { start := 0, isRead := false, buf := [0#16] })).burst =
        some { start := 0, isRead := false, buf := [0#16] } := by decide

theorem witness_WriteDataIsAbsorbed :
    (Runs State.reset ∧ classOf State.reset.params 0x10#5 = .cData ∧ State.reset.burst = none) ∧
      Runs (at_ 1 (some { start := 0, isRead := true, buf := [0#16] })) ∧
      (at_ 1 (some { start := 0, isRead := true, buf := [0#16] })).burst =
        some { start := 0, isRead := true, buf := [0#16] } := by decide

/-- `RD DATA, WR DATA, RD DATA` in a row (44_data_burst.md R88). -/
theorem witness_DataRunBecomesOneBurst :
    Runs State.reset ∧ State.reset.burst = none ∧
      ∀ j ∈ [Instr.rdData 1#16, .wrData 2#16, .rdData 3#16],
        isDataInstr State.reset.params j = true := by decide

theorem witness_DataRunYieldsOneBurstFrame :
    Runs State.reset ∧ State.reset.burst = none ∧
      (∀ j ∈ [Instr.rdData 1#16], isDataInstr State.reset.params j = true) ∧
      isRegInstr State.reset.params (.rdStatus 0x50#16) = true ∧
      isRegInstr State.reset.params (.wrUnknown1F 0#16) = true := by decide

/-- One sample, a full row, and a row with one sample over. -/
theorem witness_BurstFrameDumpsItsBuffer :
    ([0x1234#16] : List Half) ≠ [] ∧ (List.replicate 8 0x4142#16 : List Half) ≠ [] ∧
      (List.replicate 9 0x4142#16 : List Half) ≠ [] := by decide

theorem witness_WriteFeaturesEmitsPlainFrame :
    Runs State.reset ∧ classOf State.reset.params 0x11#5 = .cErr := by decide

theorem witness_ReadErrorEmitsErrorFlags :
    Runs State.reset ∧ classOf State.reset.params 0x11#5 = .cErr := by decide

theorem witness_TaskFileRowsEmitPlainFrames :
    Runs State.reset ∧ taskFileRows.length = 10 ∧
      ∀ r ∈ taskFileRows, classOf State.reset.params r.code = r.cls := by decide

/-- A duplicate; a first read; an equal read not adjacent; an adjacent read of another value. -/
theorem witness_ReadStatusSuppressesOrEmits :
    (Runs State.reset ∧ classOf State.reset.params 0x17#5 = .cStat ∧ State.reset.trkS = none ∧
      State.reset.burst = none) ∧
    (∃ li, (after 1 [.rdStatus 0x50#16] []).trkS = some { lastIdx := li, lastData := 0x50#16 } ∧
      (after 1 [.rdStatus 0x50#16] []).idx = li + 1) ∧
    (after 2 [.rdStatus 0x50#16, .wrData 0#16] []).trkS =
      some { lastIdx := 0, lastData := 0x50#16 } ∧
    (after 2 [.rdStatus 0x50#16, .wrData 0#16] []).idx = 2 ∧ (0x51#16 : Half) ≠ 0x50#16 :=
  ⟨by decide, ⟨0, by decide⟩, by decide⟩

theorem witness_WriteCommandEmitsNamedFrame :
    Runs State.reset ∧ classOf State.reset.params 0x17#5 = .cStat := by decide

theorem witness_PollingChainEmitsFirstOnly :
    Runs State.reset ∧ classOf State.reset.params 0x17#5 = .cStat ∧ State.reset.trkS = none ∧
      State.reset.burst = none := by decide

theorem witness_WriteDeviceControlEmitsPlainFrame :
    Runs State.reset ∧ classOf State.reset.params 0x0E#5 = .cAlt := by decide

/-- A duplicate, and a first read. -/
theorem witness_ReadAltStatusSuppressesOrEmits :
    (Runs State.reset ∧ classOf State.reset.params 0x0E#5 = .cAlt ∧ State.reset.trkA = none) ∧
      ∃ li, (after 1 [.rdAltStatus 0x50#16] []).trkA =
          some { lastIdx := li, lastData := 0x50#16 } ∧
        (after 1 [.rdAltStatus 0x50#16] []).idx = li + 1 := ⟨by decide, ⟨0, by decide⟩⟩

theorem witness_UnknownReadsEmitRawAddress :
    Runs State.reset ∧ unknownReadRows.length = 23 ∧
      ∀ r ∈ unknownReadRows, classOf State.reset.params r.2 = .cUnknown := by decide

theorem witness_UnknownWritesEmitRawAddress :
    Runs State.reset ∧ unknownWriteRows.length = 23 ∧
      ∀ r ∈ unknownWriteRows, classOf State.reset.params r.2 = .cUnknown := by decide

/-- One instruction for each of the three clauses. -/
theorem witness_EveryRowFollowsItsClass :
    Runs State.reset ∧
      (Instr.framingFe0 0x10#5 0#16).sample.dior = (Instr.framingFe0 0x10#5 0#16).sample.diow ∧
      (Instr.wrData 0#16).sample.dior ≠ (Instr.wrData 0#16).sample.diow ∧
      classOf State.reset.params (Instr.wrData 0#16).sample.address = .cData ∧
      (Instr.rdStatus 0#16).sample.dior ≠ (Instr.rdStatus 0#16).sample.diow ∧
      classOf State.reset.params (Instr.rdStatus 0#16).sample.address ≠ .cData := by decide

/-- Every class is that of some code of the default map. -/
theorem witness_RegisterNamesByDirection :
    ([0x10#5, 0x11#5, 0x12#5, 0x13#5, 0x14#5, 0x15#5, 0x16#5, 0x17#5, 0x0E#5, 0x1F#5] :
      List AddrCode).map (classOf defaultParams) =
      [.cData, .cErr, .cScnt, .cLbal, .cLbam, .cLbah, .cDev, .cStat, .cAlt, .cUnknown] := by decide

/-- A table with a code twice: the first entry's name is shown, and another code is unresolved. -/
theorem witness_FirstCommandNameWins :
    let p := { defaultParams with cmdNames := [(0x20#8, "A"), (0xEC#8, "B"), (0xEC#8, "C")] }
    p.cmdNames = [(0x20#8, "A")] ++ (0xEC#8, "B") :: [(0xEC#8, "C")] ∧
      (∀ e ∈ [((0x20#8 : Byte), "A")], e.1 ≠ 0xEC#8) ∧ (∀ e ∈ p.cmdNames, e.1 ≠ 0x30#8) ∧
      lookupCommand p 0xEC#8 = "B" ∧ lookupCommand p 0x30#8 = "UNKNOWN" := by decide

/-- A STATUS read, a COMMAND write, and the step that ends the pass. -/
theorem witness_TrackersFollowOnlyTheirOwnReads :
    (∃ t, exec (.rdStatus 0x50#16) State.reset = .next t) ∧
      (∃ t, exec (.wrCommand 0x50#16) State.reset = .next t) ∧
      ∃ t, step State.reset = .next t ∧ t.phase ≠ .run :=
  ⟨⟨_, rfl⟩, ⟨_, rfl⟩, ⟨_, rfl, by decide⟩⟩

/-! ### Witnesses: states of a pass -/

/-- After a STATUS read, before an equal one: the duplicate side of `SuppressedIffEqualAdjacentReads`. -/
theorem witness_inv_polling : Inv (after 1 [.rdStatus 0x50#16, .rdStatus 0x50#16] []) :=
  ⟨by decide, by decide, by decide, by decide, by decide, by decide, by decide⟩

/-- The other side: the next STATUS read differs. -/
theorem witness_inv_change : Inv (after 1 [.rdStatus 0x50#16, .rdStatus 0x58#16] []) :=
  ⟨by decide, by decide, by decide, by decide, by decide, by decide, by decide⟩

/-- A burst open, both trackers set, a framing error inside the run. -/
theorem witness_inv_burst :
    Inv (after 5 [.rdStatus 0x50#16, .rdAltStatus 0x50#16, .wrData 1#16, .framingFe1 0x10#5 0#16,
      .rdData 2#16] [0x11#8]) :=
  ⟨by decide +kernel, by decide +kernel, by decide +kernel, by decide +kernel, by decide +kernel,
    by decide +kernel, by decide +kernel⟩

/-- A pass that ended `DONE`. -/
theorem witness_inv_done : Inv (after 3 [.wrData 1#16, .rdData 2#16] []) :=
  ⟨by decide, by decide, by decide, by decide, by decide, by decide, by decide⟩

/-- A pass that ended `FAILED` with a burst open. -/
theorem witness_inv_failed : Inv (after 2 [.wrData 1#16] [0x11#8, 0x22#8]) :=
  ⟨by decide, by decide, by decide, by decide, by decide, by decide, by decide⟩

theorem witness_SuppressedIffEqualAdjacentReads :
    let s := after 1 [.rdStatus 0x50#16, .rdStatus 0x50#16] []
    Inv s ∧ (∃ t, step s = .next t) ∧ 4 * s.idx + 4 ≤ s.src.len ∧ framingAt s.src s.idx = false ∧
      dataAt s.src s.params s.idx = false ∧ suppressedAt s.src s.params s.idx = true :=
  ⟨witness_inv_polling, (hasNext_iff _).1 (by decide), by decide⟩

theorem witness_SuppressedIffEqualAdjacentReads_emitted :
    let s := after 1 [.rdStatus 0x50#16, .rdStatus 0x58#16] []
    Inv s ∧ (∃ t, step s = .next t) ∧ 4 * s.idx + 4 ≤ s.src.len ∧ framingAt s.src s.idx = false ∧
      dataAt s.src s.params s.idx = false ∧ suppressedAt s.src s.params s.idx = false :=
  ⟨witness_inv_change, (hasNext_iff _).1 (by decide), by decide⟩

/-- The empty store, and one with a record and a stray byte. -/
theorem witness_InvariantHoldsAtStart :
    ((start [] []).src.wf ∧ startPass (some (start [] []).src) defaultParams = .next (start [] [])) ∧
      (start [.rdData 1#16] [0x11#8]).src.wf ∧
      startPass (some (start [.rdData 1#16] [0x11#8]).src) defaultParams =
        .next (start [.rdData 1#16] [0x11#8]) :=
  ⟨⟨by decide, rfl⟩, by decide, rfl⟩

/-- A store of each kind of end: on a boundary, and with 1 and 3 bytes left. -/
theorem witness_PassEndsAfterEveryRecord :
    (start [.rdData 1#16] []).src.remainder = 0 ∧ (start [.rdData 1#16] [0x11#8]).src.remainder = 1 ∧
      (start [] [0x11#8, 0x22#8, 0x33#8]).src.remainder = 3 ∧
      startPass (some (start [.rdData 1#16] []).src) defaultParams =
        .next (start [.rdData 1#16] []) := ⟨by decide, by decide, by decide, rfl⟩

/-- A store that ends on a boundary, and one with a stray byte. -/
theorem witness_PassOutputIsFunctionOfStore :
    ((start [.rdData 1#16] []).src.wf ∧ (start [.rdData 1#16] []).src.remainder = 0 ∧
      startPass (some (start [.rdData 1#16] []).src) defaultParams =
        .next (start [.rdData 1#16] [])) ∧
    (start [.rdData 1#16] [0x11#8]).src.wf ∧ (start [.rdData 1#16] [0x11#8]).src.remainder = 1 ∧
      startPass (some (start [.rdData 1#16] [0x11#8]).src) defaultParams =
        .next (start [.rdData 1#16] [0x11#8]) :=
  ⟨⟨by decide, by decide, rfl⟩, by decide, by decide, rfl⟩

/-- A record. -/
theorem witness_StepKeepsInvariant :
    let s := after 1 [.rdStatus 0x50#16, .rdStatus 0x50#16] []
    Inv s ∧ ∃ t, step s = .next t := ⟨witness_inv_polling, (hasNext_iff _).1 (by decide)⟩

/-- The truncated tail, with an output and an open burst. -/
theorem witness_StepKeepsOutputExplained :
    let s := after 5 [.rdStatus 0x50#16, .rdAltStatus 0x50#16, .wrData 1#16,
      .framingFe1 0x10#5 0#16, .rdData 2#16] [0x11#8]
    Inv s ∧ s.out = expectedOut s ∧ s.out.length = 3 ∧ ∃ t, step s = .next t :=
  ⟨witness_inv_burst, by decide +kernel, by decide +kernel, (hasNext_iff _).1 (by decide +kernel)⟩

/-- An output in order with a framing error inside the open run, and a step from it. -/
theorem witness_StepKeepsOutputOrder :
    Ordered (after 3 [.wrData 1#16, .framingFe1 0x10#5 0#16, .rdData 2#16] []) ∧
      ∃ t, step (after 3 [.wrData 1#16, .framingFe1 0x10#5 0#16, .rdData 2#16] []) = .next t := by
  refine ⟨⟨?_, by decide, by decide, ?_⟩, ⟨_, rfl⟩⟩
  · exact List.pairwise_singleton _ _
  · intro b h
    obtain rfl : b = { start := 0, isRead := false, buf := [1#16, 2#16] } :=
      Option.some.inj (h.symm.trans rfl)
    decide

/-- Both trackers set and a burst open. -/
theorem witness_TrackersAndBurstDescribeTheStore :
    let s := after 5 [.rdStatus 0x50#16, .rdAltStatus 0x50#16, .wrData 1#16,
      .framingFe1 0x10#5 0#16, .rdData 2#16] [0x11#8]
    Inv s ∧ s.trkS = some { lastIdx := 0, lastData := 0x50#16 } ∧
      s.trkA = some { lastIdx := 1, lastData := 0x50#16 } ∧
      s.burst = some { start := 2, isRead := false, buf := [1#16, 2#16] } :=
  ⟨witness_inv_burst, by decide +kernel⟩

/-- Running with no burst open and a record before. -/
theorem witness_TrackersAndBurstDescribeTheStore_none :
    let s := after 1 [.rdStatus 0x50#16, .rdStatus 0x50#16] []
    Inv s ∧ s.phase = .run ∧ s.burst = none ∧
      (accessesBelow s.src s.idx).getLast? = some 0 := ⟨witness_inv_polling, by decide⟩

theorem witness_DonePassAccountsForEveryRecord :
    let s := after 3 [.wrData 1#16, .rdData 2#16] []
    Inv s ∧ s.out = expectedOut s ∧ s.phase = .done ∧ s.src.recordCount = 2 :=
  ⟨witness_inv_done, by decide⟩

/-- Two stores that agree on one record and differ after it. -/
theorem witness_PrefixOfStoreDeterminesPrefixOfRun :
    (let s := start [.rdStatus 0x50#16, .rdData 1#16] []
    let m' := (start [.rdStatus 0x50#16] [0x11#8]).src
    4 * 1 ≤ s.src.len ∧ 4 * 1 ≤ m'.len ∧ (∀ a, a < 4 * 1 → s.src.byteAt a = m'.byteAt a) ∧
      s.idx + 1 ≤ 1 ∧ s.phase = .run) ∧
    (start [.rdStatus 0x50#16, .rdData 1#16] []).src ≠ (start [.rdStatus 0x50#16] [0x11#8]).src := by
  decide

theorem witness_StoreAndParametersAreConstant :
    ∃ t, step (start [.wrCommand 0xEC#16] []) = .next t := ⟨_, rfl⟩

theorem witness_OutputIsAppendOnly :
    ∃ t, step (start [.rdStatus 0x50#16] []) = .next t ∧ t.out.length = 1 := ⟨_, rfl, by decide⟩

/-- A step of each of the three kinds. -/
theorem witness_ControlMovesOnlyForward :
    (∃ t, step (start [.rdStatus 0x50#16] []) = .next t ∧ t.phase = .run) ∧
      (∃ t, step (start [] []) = .next t ∧ t.phase = .done) ∧
      ∃ t, step (start [] [0x11#8]) = .next t ∧ t.phase = .failed :=
  ⟨⟨_, rfl, by decide⟩, ⟨_, rfl, by decide⟩, ⟨_, rfl, by decide⟩⟩

theorem witness_RunningPassNeverStops :
    Inv (after 1 [.rdStatus 0x50#16, .rdStatus 0x50#16] []) ∧
      (after 1 [.rdStatus 0x50#16, .rdStatus 0x50#16] []).phase = .run :=
  ⟨witness_inv_polling, by decide⟩

end Sys2Proof.Tests
end

section
/-! The bytes of a sample (00_scope.md R11) in arithmetic. -/

namespace Sys2Proof.Machine

theorem lo8_toNat (d : Half) : (lo8 d).toNat = d.toNat % 256 := by
  simp [lo8]

theorem hi8_toNat (d : Half) : (hi8 d).toNat = d.toNat / 256 := by
  have hd : d.toNat < 2 ^ 16 := d.isLt
  simp only [hi8, BitVec.extractLsb'_toNat, Nat.shiftRight_eq_div_pow]
  omega

theorem printable_iff (b : Byte) : printable b = true ↔ 0x20 ≤ b.toNat ∧ b.toNat ≤ 0x7E := by
  simp [printable, BitVec.le_def]

/-- Settles O25, from the bytes of a half word and the printable range. -/
theorem byteSplitAndPrintableRange : Obligations.ByteSplitAndPrintableRange := by
  refine ⟨fun d => ⟨lo8_toNat d, hi8_toNat d⟩, fun b => ?_⟩
  unfold asc
  exact if_congr (printable_iff b) rfl rfl

end Sys2Proof.Machine
end

section
/-! What a pass has seen after one more record: each description of Safety over `n + 1` records in terms
of the one over `n`. -/

namespace Sys2Proof.Safety

open Sys2Proof.Machine

/-! ### The class of a record -/

theorem classAt_framing (m : Memory) (p : Params) (i : Nat) (h : framingAt m i = true) :
    classAt m p i = .framing :=
  if_pos h

theorem classAt_access (m : Memory) (p : Params) (i : Nat) (h : framingAt m i = false) :
    classAt m p i =
      .access (isReadSample (sampleAt m i)) (classOf p (sampleAt m i).address) :=
  if_neg (by simpa [framingAt] using h)

theorem dataAt_eq (m : Memory) (p : Params) (i : Nat) (h : framingAt m i = false) :
    dataAt m p i = (classOf p (sampleAt m i).address == .cData) := by
  unfold dataAt
  rw [classAt_access m p i h]
  cases isReadSample (sampleAt m i) <;> simp [BEq.beq]

theorem readAt_framing (m : Memory) (p : Params) (c : RegClass) (i : Nat)
    (h : framingAt m i = true) : readAt m p c i = false := by
  unfold readAt
  rw [classAt_framing m p i h]
  rfl

theorem readAt_iff (m : Memory) (p : Params) (c : RegClass) (i : Nat) (h : framingAt m i = false) :
    readAt m p c i = true ↔
      isReadSample (sampleAt m i) = true ∧ classOf p (sampleAt m i).address = c := by
  unfold readAt
  rw [classAt_access m p i h]
  simp

/-! ### The trackers -/

@[simp] theorem lastRead_zero (m : Memory) (p : Params) (c : RegClass) :
    lastRead m p c 0 = none := rfl

/-- The most recent read is the last record if that is a read of the register, else the one before. -/
theorem lastRead_succ (m : Memory) (p : Params) (c : RegClass) (n : Nat) :
    lastRead m p c (n + 1) =
      if readAt m p c n then some { lastIdx := n, lastData := (sampleAt m n).data }
      else lastRead m p c n := by
  unfold lastRead readsBelow
  rw [List.range_succ, List.filter_append]
  cases h : readAt m p c n <;> simp [h]

theorem lastRead_lastIdx_lt (m : Memory) (p : Params) (c : RegClass) (n : Nat) (t : Tracker)
    (h : lastRead m p c n = some t) : t.lastIdx < n := by
  induction n with
  | zero => simp at h
  | succ n ih =>
    rw [lastRead_succ] at h
    split at h
    · obtain rfl := Option.some.inj h
      exact Nat.lt_succ_self n
    · exact Nat.lt_succ_of_lt (ih h)

/-- 43_duplicate_suppression.md R79 (b): the tracker's test is one of the record just before. -/
theorem isDuplicate_lastRead (m : Memory) (p : Params) (c : RegClass) (n : Nat) (d : Half) :
    isDuplicate (lastRead m p c n) n d = true ↔
      1 ≤ n ∧ readAt m p c (n - 1) = true ∧ (sampleAt m (n - 1)).data = d := by
  cases n with
  | zero => simp [isDuplicate]
  | succ n =>
    rw [isDuplicate_iff, lastRead_succ, Nat.add_sub_cancel]
    cases hr : readAt m p c n with
    | true =>
      simp only [if_true, true_and, Option.some.injEq, Tracker.mk.injEq, Nat.add_right_cancel_iff]
      exact ⟨fun ⟨_, ⟨_, hd⟩, _⟩ => ⟨Nat.le_add_left 1 n, hd⟩, fun ⟨_, hd⟩ => ⟨n, ⟨rfl, hd⟩, rfl⟩⟩
    | false =>
      have hlt := lastRead_lastIdx_lt m p c n
      simp only [Bool.false_eq_true, if_false, false_and, and_false, iff_false]
      rintro ⟨li, ht, hn⟩
      have : li < n := hlt _ ht
      omega

/-! ### The open burst -/

@[simp] theorem openBurst_zero (m : Memory) (p : Params) : openBurst m p 0 = none := rfl

/-- The open run passes over a framing error, grows by a DATA sample and ends at any other access
(44_data_burst.md R80). -/
theorem openRun_succ (m : Memory) (p : Params) (n : Nat) :
    openRun m p (n + 1) =
      if framingAt m n then openRun m p n
      else if dataAt m p n then openRun m p n ++ [n] else [] := by
  unfold openRun accessesBelow
  rw [List.range_succ, List.filter_append]
  cases hf : framingAt m n <;> cases hd : dataAt m p n <;> simp [hf, hd]

/-- A run with one more DATA sample is the burst that has absorbed it. -/
theorem burstOf_append (m : Memory) (is : List Nat) (n : Nat) :
    burstOf m (is ++ [n]) =
      some (absorb n (isReadSample (sampleAt m n)) (sampleAt m n).data (burstOf m is)) := by
  cases is <;> simp [burstOf, absorb]

theorem openBurst_succ (m : Memory) (p : Params) (n : Nat) :
    openBurst m p (n + 1) =
      if framingAt m n then openBurst m p n
      else if dataAt m p n then
        some (absorb n (isReadSample (sampleAt m n)) (sampleAt m n).data (openBurst m p n))
      else none := by
  unfold openBurst
  rw [openRun_succ]
  split
  · rfl
  · split
    · exact burstOf_append m _ n
    · rfl

/-! ### The frames -/

@[simp] theorem framesBelow_zero (m : Memory) (p : Params) : framesBelow m p 0 = [] := rfl

theorem framesBelow_succ (m : Memory) (p : Params) (n : Nat) :
    framesBelow m p (n + 1) = framesBelow m p n ++ framesAt m p n := by
  simp [framesBelow, List.range_succ]

theorem framesAt_framing (m : Memory) (p : Params) (i : Nat) (h : framingAt m i = true) :
    framesAt m p i = [.fFraming { idx := i, sample := sampleAt m i, cat := .catError }] := by
  unfold framesAt
  rw [classAt_framing m p i h]

theorem framesAt_data (m : Memory) (p : Params) (i : Nat) (h : framingAt m i = false)
    (hc : classOf p (sampleAt m i).address = .cData) : framesAt m p i = [] := by
  unfold framesAt
  rw [classAt_access m p i h, hc]

theorem framesAt_register (m : Memory) (p : Params) (i : Nat) (h : framingAt m i = false)
    (hc : classOf p (sampleAt m i).address ≠ .cData) :
    framesAt m p i =
      burstFrames (openBurst m p i) ++
        (if suppressedAt m p i then []
          else [.fReg (regFrame p (sampleAt m i) (isReadSample (sampleAt m i)) i)]) := by
  unfold framesAt
  rw [classAt_access m p i h]
  generalize classOf p (sampleAt m i).address = c at hc
  cases c with
  | cData => exact absurd rfl hc
  | _ => rfl

end Sys2Proof.Safety
end

section
/-! The effect of a record on a state whose trackers and burst are what the store says (46_decoder_step.md
R114, R124): they are again, and the frames of the record are appended. -/

namespace Sys2Proof.Safety

open Sys2Proof.Machine

/-- The trackers and the burst are those of the consumed records (46_decoder_step.md R124 (a) to (d)). -/
structure SeenFromStore (s : State) : Prop where
  trkS : s.trkS = lastRead s.src s.params .cStat s.idx
  trkA : s.trkA = lastRead s.src s.params .cAlt s.idx
  burst : s.burst = openBurst s.src s.params s.idx

/-- The invariant of a pass that is still running. -/
theorem Inv.seenFromStore {s : State} (h : Inv s) (hp : s.phase = .run) : SeenFromStore s :=
  ⟨h.trkS, h.trkA, h.burstRun hp⟩

/-- The state with the next record consumed as the store describes it. -/
def consumed (s : State) : State :=
  { s with
    idx := s.idx + 1
    trkS := lastRead s.src s.params .cStat (s.idx + 1)
    trkA := lastRead s.src s.params .cAlt (s.idx + 1)
    burst := openBurst s.src s.params (s.idx + 1)
    out := s.out ++ framesAt s.src s.params s.idx }

theorem trackerOf_candidate (s : State) (h : SeenFromStore s) (c : RegClass)
    (hc : c = .cStat ∨ c = .cAlt) : trackerOf c s = lastRead s.src s.params c s.idx := by
  rcases hc with rfl | rfl
  · exact h.trkS
  · exact h.trkA

/-- 43_duplicate_suppression.md R79 (b): the incremental test is the declarative one. -/
theorem isSuppressed_eq_suppressedAt (s : State) (h : SeenFromStore s)
    (hf : framingAt s.src s.idx = false) :
    isSuppressed s (classOf s.params (sampleAt s.src s.idx).address)
        (isReadSample (sampleAt s.src s.idx)) (sampleAt s.src s.idx).data =
      suppressedAt s.src s.params s.idx := by
  rw [Bool.eq_iff_iff]
  simp only [isSuppressed, suppressedAt, Bool.and_eq_true, Bool.or_eq_true, isDupCandidate_iff,
    decide_eq_true_eq, beq_iff_eq, readAt_iff _ _ _ _ hf]
  constructor
  · rintro ⟨⟨hr, hc⟩, hd⟩
    rw [trackerOf_candidate s h _ hc, isDuplicate_lastRead] at hd
    obtain ⟨h1, hp, hdata⟩ := hd
    rcases hc with hc | hc <;> rw [hc] at hp
    · exact ⟨⟨h1, .inl ⟨hp, hr, hc⟩⟩, hdata⟩
    · exact ⟨⟨h1, .inr ⟨hp, hr, hc⟩⟩, hdata⟩
  · rintro ⟨⟨h1, ⟨hp, hr, hc⟩ | ⟨hp, hr, hc⟩⟩, hdata⟩
    · refine ⟨⟨hr, .inl hc⟩, ?_⟩
      rw [trackerOf_candidate s h _ (.inl hc), isDuplicate_lastRead, hc]
      exact ⟨h1, hp, hdata⟩
    · refine ⟨⟨hr, .inr hc⟩, ?_⟩
      rw [trackerOf_candidate s h _ (.inr hc), isDuplicate_lastRead, hc]
      exact ⟨h1, hp, hdata⟩

/-- The candidates of the first tracker are the STATUS reads (R74). -/
theorem isDupCandidate_and_cStat (c : RegClass) (r : Bool) :
    isDupCandidate c r = true ∧ c = .cStat ↔ r = true ∧ c = .cStat := by
  rw [isDupCandidate_iff]
  exact ⟨fun ⟨⟨hr, _⟩, hc⟩ => ⟨hr, hc⟩, fun ⟨hr, hc⟩ => ⟨⟨hr, .inl hc⟩, hc⟩⟩

/-- The candidates of the second tracker are the ALT_STATUS reads (R74). -/
theorem isDupCandidate_and_ne_cStat (c : RegClass) (r : Bool) :
    isDupCandidate c r = true ∧ c ≠ .cStat ↔ r = true ∧ c = .cAlt := by
  rw [isDupCandidate_iff]
  exact ⟨fun ⟨⟨hr, hc⟩, hn⟩ => ⟨hr, hc.resolve_left hn⟩,
    fun ⟨hr, hc⟩ => ⟨⟨hr, .inr hc⟩, by rw [hc]; decide⟩⟩

/-- A record does what the store alone calls for: by the three cases of a record. -/
theorem recordEffect_eq_consumed (s : State) (h : SeenFromStore s) :
    recordEffect (sampleAt s.src s.idx) s = consumed s := by
  obtain ⟨hS, hA, hB⟩ := h
  unfold consumed
  rw [lastRead_succ, lastRead_succ, openBurst_succ]
  rcases recordEffect_cases (sampleAt s.src s.idx) s with ⟨hf, he⟩ | ⟨hf, hc, he⟩ | ⟨hf, hc, he⟩
  · rw [he, takeException_framingError, framesAt_framing _ _ _ hf,
      readAt_framing _ _ _ _ hf, readAt_framing _ _ _ _ hf]
    simp [framingAt, hf, ← hS, ← hA, ← hB]
  · have hread := fun c => readAt_iff s.src s.params c s.idx hf
    have hdata := dataAt_eq s.src s.params s.idx hf
    rw [he, dataSample_eq, framesAt_data _ _ _ hf hc]
    simp [framingAt, hf, hdata, hread, hc, ← hS, ← hA, ← hB]
  · have hread := fun c => readAt_iff s.src s.params c s.idx hf
    have hdata := dataAt_eq s.src s.params s.idx hf
    rw [he, regSample_eq, framesAt_register _ _ _ hf hc,
      isSuppressed_eq_suppressedAt s ⟨hS, hA, hB⟩ hf]
    simp [framingAt, hf, hdata, hread, hc, isDupCandidate_and_cStat, isDupCandidate_and_ne_cStat,
      ← hS, ← hA, ← hB]

end Sys2Proof.Safety
end

section
/-! A whole pass: the state after each of its records, and the step that ends it. -/

namespace Sys2Proof.Safety

open Sys2Proof.Machine

/-- A step with a record left consumes it (46_decoder_step.md R114). -/
theorem step_record (s : State) (hp : s.phase = .run) (h : 4 * s.idx + 4 ≤ s.src.len) :
    step s = .next (recordEffect (sampleAt s.src s.idx) s) := by
  unfold step
  rw [hp, nextItem_eq_sampleAt _ _ h]
  simp only [exec_eq, sample_ofSample, inRun_run _ _ hp]

/-- A step at the end of the store (46_decoder_step.md R116). -/
theorem step_end (s : State) (hp : s.phase = .run) (h : s.src.len = 4 * s.idx) :
    step s = .next (endOfInput s) := by
  unfold step
  rw [hp, nextItem_eq, if_neg (by omega), if_neg (by omega), if_pos h]
  exact inRun_run _ _ hp

/-- A step with 1 to 3 bytes left (46_decoder_step.md R117). -/
theorem step_tail (s : State) (hp : s.phase = .run) (h : 4 * s.idx < s.src.len)
    (h4 : s.src.len < 4 * s.idx + 4) : step s = .next (truncated (s.src.len - 4 * s.idx) s) := by
  unfold step
  rw [hp, nextItem_eq, if_neg (by omega), if_neg (by omega), if_neg (by omega)]
  exact inRun_run _ _ hp

theorem run_succ_of_next {M : Host.Core} (k : Nat) {s t : M.State} (h : M.step s = .next t) :
    Host.Core.run M (k + 1) s = Host.Core.run M k t := by
  rw [Host.Core.run, h]

/-- A run that answers a state took a first step. -/
theorem exists_step_of_run_succ {M : Host.Core} {k : Nat} {s t : M.State}
    (h : Host.Core.run M (k + 1) s = .next t) :
    ∃ u, M.step s = .next u ∧ Host.Core.run M k u = .next t := by
  rw [Host.Core.run] at h
  split at h
  · next u hu => exact ⟨u, hu, h⟩
  · cases h
  · cases h

/-- A run and one step more. -/
theorem run_succ_of_run {M : Host.Core} {k : Nat} {s t u : M.State}
    (h : Host.Core.run M k s = .next t) (hu : M.step t = .next u) :
    Host.Core.run M (k + 1) s = .next u := by
  induction k generalizing s with
  | zero =>
    obtain rfl : s = t := Host.Outcome.next.inj h
    exact run_succ_of_next 0 hu
  | succ k ih =>
    obtain ⟨v, hv, hr⟩ := exists_step_of_run_succ h
    rw [run_succ_of_next _ hv]
    exact ih hr

/-- The state of a pass after its first `n` records, said from the store alone. -/
def passState (m : Memory) (p : Params) (n : Nat) : State where
  idx := n
  trkS := lastRead m p .cStat n
  trkA := lastRead m p .cAlt n
  burst := openBurst m p n
  phase := .run
  out := framesBelow m p n
  src := m
  params := p

/-- A pass starts before its first record (10_state.md R22). -/
theorem startPass_eq_passState (m : Memory) (p : Params) :
    startPass (some m) p = .next (passState m p 0) := rfl

theorem step_passState (m : Memory) (p : Params) (n : Nat) (h : 4 * n + 4 ≤ m.len) :
    step (passState m p n) = .next (passState m p (n + 1)) := by
  rw [step_record _ rfl h, recordEffect_eq_consumed _ ⟨rfl, rfl, rfl⟩]
  unfold passState
  rw [framesBelow_succ]
  rfl

/-- The records of a pass, one step each (46_decoder_step.md R115). -/
theorem run_passState (m : Memory) (p : Params) (k : Nat) (h : 4 * k ≤ m.len) :
    Host.Core.run core k (passState m p 0) = .next (passState m p k) := by
  induction k with
  | zero => rfl
  | succ k ih => exact run_succ_of_run (ih (by omega)) (step_passState m p k (by omega))

/-- The last step of a pass, at the end of the store or in its tail. -/
theorem step_passState_last (m : Memory) (p : Params) :
    step (passState m p m.recordCount) =
      .next (if m.remainder = 0 then endOfInput (passState m p m.recordCount)
        else truncated m.remainder (passState m p m.recordCount)) := by
  have hlen : m.len = 4 * m.recordCount + m.remainder := (Nat.div_add_mod m.len 4).symm
  have hlt : m.remainder < 4 := Nat.mod_lt _ (by decide)
  split
  · next h0 => exact step_end _ rfl (by show m.len = 4 * m.recordCount; omega)
  · next h0 =>
    rw [step_tail _ rfl (by show 4 * m.recordCount < m.len; omega)
      (by show m.len < 4 * m.recordCount + 4; omega)]
    show Host.Outcome.next (truncated (m.len - 4 * m.recordCount) _) = _
    rw [hlen, Nat.add_sub_cancel_left]

/-- Settles O50: the steps over the records reach the state the store describes, and the last step adds
the flush and the report of a tail. -/
theorem passOutputIsFunctionOfStore : Obligations.PassOutputIsFunctionOfStore := by
  intro m p s _ hs
  obtain rfl : passState m p 0 = s := Host.Outcome.next.inj hs
  have hrun := run_passState m p m.recordCount (Nat.mul_div_le m.len 4)
  refine ⟨_, run_succ_of_run hrun (step_passState_last m p), ?_⟩
  split
  · rw [endOfInput_eq]; rfl
  · rw [truncated_eq]; rfl

end Sys2Proof.Safety
end

section
/-! The start of a pass: the reset state is one, it is the pass after no record, and it meets every
invariant (10_state.md R22; 46_decoder_step.md R124). -/

namespace Sys2Proof.Safety

open Sys2Proof.Machine

/-- Reset is the start of a pass over the empty store with the default parameters (log 1, log 2). -/
theorem reset_eq_passState :
    State.reset = passState { len := 0, cells := [] } defaultParams 0 := rfl

/-- The state the store describes after its first `n` records meets the invariant of a pass. -/
theorem inv_passState (m : Memory) (p : Params) (n : Nat) (hm : m.wf) (h : 4 * n ≤ m.len) :
    Inv (passState m p n) where
  store := hm
  within := h
  trkS := rfl
  trkA := rfl
  burstRun := fun _ => rfl
  atDone := nofun
  atFailed := nofun

/-- While the pass runs, nothing but the frames of the records is called for. -/
theorem passState_out_eq_expectedOut (m : Memory) (p : Params) (n : Nat) :
    (passState m p n).out = expectedOut (passState m p n) :=
  (List.append_nil _).symm

/-- With nothing emitted and nothing open there is no order to break. -/
theorem ordered_of_out_nil (s : State) (hout : s.out = []) (hburst : s.burst = none) :
    Ordered s where
  pairs := by simp [hout]
  below := by simp [hout]
  ioErr := by simp [hout]
  opened := by simp [hburst]

/-- The three invariants of a pass hold before its first record. -/
theorem passState_zero_invariants (m : Memory) (p : Params) (hm : m.wf) :
    Inv (passState m p 0) ∧ (passState m p 0).out = expectedOut (passState m p 0) ∧
      Ordered (passState m p 0) :=
  ⟨inv_passState m p 0 hm (Nat.zero_le _), passState_out_eq_expectedOut m p 0,
    ordered_of_out_nil _ rfl rfl⟩

/-- Settles O16: reset and `startPass` write the six values out. -/
theorem invocationStartsFromResetState : Obligations.InvocationStartsFromResetState :=
  ⟨⟨rfl, rfl, rfl, rfl, rfl, rfl⟩, fun _ _ => rfl⟩

/-- Settles O43: reset and every start of a pass are the state of a pass before its first record. -/
theorem invariantHoldsAtStart : Obligations.InvariantHoldsAtStart := by
  refine ⟨?reset, fun m p s hm hs => ?start⟩
  case reset =>
    rw [reset_eq_passState]
    exact passState_zero_invariants _ _ empty_wf
  case start =>
    rw [startPass_eq_passState] at hs
    obtain rfl := Host.Outcome.next.inj hs
    exact passState_zero_invariants m p hm

end Sys2Proof.Safety
end

section
/-! What a step appends to the output (10_state.md R18): a record its frames, the end of a pass the
flush and the report of a tail. -/

namespace Sys2Proof.Safety

open Sys2Proof.Machine

/-- A flush and a report, each of at most one frame, are at most two frames. -/
theorem length_append_le_two {flush report : List Frame} (hf : flush.length ≤ 1)
    (hr : report.length ≤ 1) : (flush ++ report).length ≤ 2 :=
  List.length_append.trans_le (Nat.add_le_add hf hr)

/-- A record appends at most a flushed burst and one frame of its own (46_decoder_step.md R114). -/
theorem recordEffect_appends (smp : Sample) (s : State) :
    ∃ fs, (recordEffect smp s).out = s.out ++ fs ∧ fs.length ≤ 2 := by
  rcases recordEffect_cases smp s with ⟨-, he⟩ | ⟨-, -, he⟩ | ⟨-, -, he⟩
  · rw [he, takeException_framingError]
    exact ⟨_, rfl, Nat.le_succ 1⟩
  · rw [he, dataSample_eq]
    exact ⟨[], (List.append_nil _).symm, Nat.zero_le 2⟩
  · rw [he, regSample_eq]
    refine ⟨_, rfl, length_append_le_two (burstFrames_length_le s.burst) ?_⟩
    split
    · exact Nat.zero_le 1
    · exact Nat.le_refl 1

/-- The end of the store appends at most a flushed burst (46_decoder_step.md R116). -/
theorem endOfInput_appends (s : State) :
    ∃ fs, (endOfInput s).out = s.out ++ fs ∧ fs.length ≤ 2 := by
  rw [endOfInput_eq]
  exact ⟨_, rfl, Nat.le_succ_of_le (burstFrames_length_le s.burst)⟩

/-- A truncated tail appends at most a flushed burst and its report (46_decoder_step.md R117). -/
theorem truncated_appends (k : Nat) (s : State) :
    ∃ fs, (truncated k s).out = s.out ++ fs ∧ fs.length ≤ 2 := by
  rw [truncated_eq]
  refine ⟨_, rfl, length_append_le_two ?_ (Nat.le_refl 1)⟩
  split
  · exact burstFrames_length_le s.burst
  · exact Nat.zero_le 1

/-- Settles O52, by the three kinds of step. -/
theorem outputIsAppendOnly : Obligations.OutputIsAppendOnly := by
  intro s t h
  obtain ⟨-, ⟨-, hexec⟩ | ⟨-, rfl⟩ | ⟨-, -, rfl⟩⟩ := step_cases s t h
  · rw [exec_eq] at hexec
    obtain ⟨-, rfl⟩ := inRun_next _ _ _ hexec
    exact recordEffect_appends _ s
  · exact endOfInput_appends s
  · exact truncated_appends _ s

end Sys2Proof.Safety
end

section
/-! What a step leaves alone (20_memory.md R28; 10_state.md R20): the store and the parameters are inputs
of the pass, and each of the three kinds of step writes neither. -/

namespace Sys2Proof.Safety

open Sys2Proof.Machine

/-- A record writes no input of the pass (46_decoder_step.md R114). -/
theorem recordEffect_keeps_inputs (smp : Sample) (s : State) :
    (recordEffect smp s).src = s.src ∧ (recordEffect smp s).params = s.params := by
  rcases recordEffect_cases smp s with ⟨-, he⟩ | ⟨-, -, he⟩ | ⟨-, -, he⟩
  · rw [he, takeException_framingError]
    exact ⟨rfl, rfl⟩
  · rw [he, dataSample_eq]
    exact ⟨rfl, rfl⟩
  · rw [he, regSample_eq]
    exact ⟨rfl, rfl⟩

/-- The end of the store writes no input of the pass (46_decoder_step.md R116). -/
theorem endOfInput_keeps_inputs (s : State) :
    (endOfInput s).src = s.src ∧ (endOfInput s).params = s.params := by
  rw [endOfInput_eq]
  exact ⟨rfl, rfl⟩

/-- A truncated tail writes no input of the pass (46_decoder_step.md R117). -/
theorem truncated_keeps_inputs (k : Nat) (s : State) :
    (truncated k s).src = s.src ∧ (truncated k s).params = s.params := by
  rw [truncated_eq]
  exact ⟨rfl, rfl⟩

/-- No step writes an input of the pass, by the three kinds of step. -/
theorem step_keeps_inputs {s t : State} (h : step s = .next t) :
    t.src = s.src ∧ t.params = s.params := by
  obtain ⟨-, ⟨-, hexec⟩ | ⟨-, rfl⟩ | ⟨-, -, rfl⟩⟩ := step_cases s t h
  · rw [exec_eq] at hexec
    obtain ⟨-, rfl⟩ := inRun_next _ _ _ hexec
    exact recordEffect_keeps_inputs _ s
  · exact endOfInput_keeps_inputs s
  · exact truncated_keeps_inputs _ s

/-- Settles O53: a step keeps the store as a whole, so every byte read from it too. -/
theorem storeAndParametersAreConstant : Obligations.StoreAndParametersAreConstant := by
  intro s t h
  obtain ⟨hsrc, hparams⟩ := step_keeps_inputs h
  exact ⟨hsrc, hparams, fun a => by rw [hsrc]⟩

end Sys2Proof.Safety
end

section
/-! The fields of a record word (30_encoding.md R36) under a mask, and the sample an encoded word carries
(41_sample_codec.md R63). -/

namespace Sys2Proof

/-- The fields of a sample, each under the field of a mask. -/
def Sample.masked (s m : Sample) : Sample where
  data := s.data &&& m.data
  address := s.address &&& m.address
  dior := s.dior &&& m.dior
  diow := s.diow &&& m.diow

/-- A bit of the field at position `k`, beside a mask of the field's width, is the bit of the word at its
own place: past the width the mask has no bit left. -/
theorem getLsbD_field_and (w : Word) (k i : Nat) {n : Nat} (m : BitVec n) :
    (decide (k ≤ i) && ((w.extractLsb' k n).getLsbD (i - k) && m.getLsbD (i - k))) =
      (w.getLsbD i && (decide (k ≤ i) && m.getLsbD (i - k))) := by
  by_cases hk : k ≤ i
  · rw [BitVec.getLsbD_extractLsb', Nat.add_sub_cancel' hk]
    by_cases hn : i - k < n
    · simp [hk, hn]
    · simp [BitVec.getLsbD_of_ge m (i - k) (by omega)]
  · simp [hk]

/-- A mask acts on each field of a word, and clears the reserved bits (30_encoding.md R36). -/
theorem and_encodeSample (w : Word) (m : Sample) :
    w &&& encodeSample m = encodeSample ((decodeSample w).masked m) := by
  apply BitVec.eq_of_getLsbD_eq
  intro i _
  have hdata : ((w.extractLsb' 0 16).getLsbD i && m.data.getLsbD i) =
      (w.getLsbD i && m.data.getLsbD i) := by
    simpa only [Nat.zero_le, decide_true, Bool.true_and, Nat.sub_zero] using getLsbD_field_and w 0 i m.data
  simp only [BitVec.getLsbD_and, getLsbD_encodeSample, Sample.masked, decodeSample,
    getLsbD_field_and, hdata, Bool.and_or_distrib_left]

/-- 41_sample_codec.md R63: the word of a sample carries its four fields. -/
@[simp] theorem decodeSample_encodeSample (s : Sample) : decodeSample (encodeSample s) = s := by
  obtain ⟨d, a, r, w⟩ := s
  simp only [decodeSample, Sample.mk.injEq]
  refine ⟨?_, ?_, ?_, ?_⟩ <;> refine BitVec.eq_of_getLsbD_eq fun i hi => ?_ <;>
    simp only [BitVec.getLsbD_extractLsb', getLsbD_encodeSample, hi, decide_true, Bool.true_and]
  · simp [show ¬ 16 ≤ i by omega, show ¬ 24 ≤ i by omega, show ¬ 25 ≤ i by omega]
  · simp [show ¬ 24 ≤ 16 + i by omega, show ¬ 25 ≤ 16 + i by omega]
  · obtain rfl : i = 0 := by omega
    simp
  · obtain rfl : i = 0 := by omega
    simp

theorem encodeSample_inj {s t : Sample} : encodeSample s = encodeSample t ↔ s = t :=
  (Function.LeftInverse.injective decodeSample_encodeSample).eq_iff

end Sys2Proof
end

section
/-! The rows of the opcode table (30_encoding.md R45): the fields of a sample that select its row, and
that the masks and matches of the 66 rows compare exactly these. -/

namespace Sys2Proof

/-! ### The selector of a row -/

/-- The fields that select the row: the strobes, and the address if they differ (30_encoding.md R45). -/
def Sample.selector (s : Sample) : Sample :=
  { s with data := 0#16, address := if s.valid then s.address else 0#5 }

/-- The mask of the fields that select the row. -/
def Sample.selectorMask (s : Sample) : Sample where
  data := 0#16
  address := if s.valid then 0x1F#5 else 0#5
  dior := 1#1
  diow := 1#1

theorem selector_readSample (a : AddrCode) (d : Half) :
    (readSample a d).selector = readSample a 0#16 := rfl

theorem selector_writeSample (a : AddrCode) (d : Half) :
    (writeSample a d).selector = writeSample a 0#16 := rfl

theorem selector_framing (a : AddrCode) (d : Half) (x : Strobe) :
    ({ data := d, address := a, dior := x, diow := x } : Sample).selector =
      { data := 0#16, address := 0#5, dior := x, diow := x } := by
  simp [Sample.selector, Sample.valid]

/-- A sample has the selector of `t` exactly if it shows it under the mask of `t`: the strobes are always
compared, and once they agree both samples have their address in the selector, or neither. -/
theorem masked_selectorMask_eq_iff (s t : Sample) :
    s.masked t.selectorMask = t.selector ↔ s.selector = t.selector := by
  obtain ⟨d, a, r, w⟩ := s
  obtain ⟨d', a', r', w'⟩ := t
  have address_and : ∀ x : AddrCode, x &&& 0x1F#5 = x := by decide
  have strobe_and : ∀ x : Strobe, x &&& 1#1 = x := by decide
  simp only [Sample.masked, Sample.selector, Sample.selectorMask, Sample.valid, strobe_and,
    BitVec.and_zero, Sample.mk.injEq, true_and]
  refine and_congr_left fun ⟨hr, hw⟩ => ?_
  rw [hr, hw]
  by_cases hv : (r' != w') = true
  · simp only [hv, if_true, address_and]
  · simp only [hv, if_false, Bool.false_eq_true, BitVec.and_zero]

/-! ### The row of an instruction -/

/-- A framing row compares the strobes, an access row the address too (30_encoding.md R45). -/
theorem row_mask (i : Instr) :
    i.row.mask = if i.sample.valid then 0x031F0000#32 else 0x03000000#32 := by
  cases i <;> rfl

/-- The mask of a row is the word that has every compared field set. -/
theorem row_mask_eq_encodeSample (i : Instr) : i.row.mask = encodeSample i.sample.selectorMask := by
  rw [row_mask, Sample.selectorMask]
  split <;> decide

/-- The match of a row is the word of its selector (30_encoding.md R45). -/
theorem row_matchWord_eq_encodeSample (i : Instr) :
    i.row.matchWord = encodeSample i.sample.selector := by
  cases i <;> simp only [Instr.row, Instr.sample, selector_framing, selector_readSample,
    selector_writeSample] <;> decide

/-- The row depends on the selector alone. -/
theorem row_ofSample_selector (i : Instr) : (Instr.ofSample i.sample.selector).row = i.row := by
  cases i <;> rfl

/-- The selector is all a row tells of a sample, as its match is the word of the selector. -/
theorem row_eq_iff (i j : Instr) : i.row = j.row ↔ i.sample.selector = j.sample.selector := by
  constructor
  · intro h
    rw [← encodeSample_inj, ← row_matchWord_eq_encodeSample, ← row_matchWord_eq_encodeSample, h]
  · intro h
    rw [← row_ofSample_selector i, h, row_ofSample_selector j]

/-- A word belongs to the row of an instruction exactly if that is the row decoding selects. -/
theorem and_row_mask_eq_iff (w : Word) (i : Instr) :
    w &&& i.row.mask = i.row.matchWord ↔ i.row = (decodeWord w).row := by
  rw [row_mask_eq_encodeSample, row_matchWord_eq_encodeSample, and_encodeSample, encodeSample_inj,
    masked_selectorMask_eq_iff, row_eq_iff, decodeWord, Machine.sample_ofSample, eq_comm]

/-! ### The table -/

/-- A row of the table is the row of an instruction. -/
theorem exists_row_of_mem_opcodeTable {r : OpcodeRow} (h : r ∈ opcodeTable) :
    ∃ i : Instr, i.row = r := by
  simp only [opcodeTable, List.mem_append, List.mem_cons, List.mem_map, List.not_mem_nil,
    or_false] at h
  obtain ((rfl | rfl) | ⟨f, -, rfl⟩) | ⟨f, -, rfl⟩ := h <;> exact ⟨_, rfl⟩

/-- The row of an instruction is in the table: its selector, which holds no data, leads to a framing row,
to a read row or to a write row. -/
theorem row_mem_opcodeTable (i : Instr) : i.row ∈ opcodeTable := by
  simp only [opcodeTable, List.mem_append, List.mem_cons, List.mem_map, List.not_mem_nil, or_false]
  rw [← row_ofSample_selector, Instr.ofSample]
  split
  · split
    · exact .inl (.inl (.inl rfl))
    · exact .inl (.inl (.inr rfl))
  · split
    · exact .inl (.inr ⟨_, Vector.mem_toList_iff.mpr (Vector.getElem_mem _), rfl⟩)
    · exact .inr ⟨_, Vector.mem_toList_iff.mpr (Vector.getElem_mem _), rfl⟩

/-- No row stands twice in the table: the 66 matches differ. -/
theorem opcodeTable_nodup : opcodeTable.Nodup := by
  have hmatch : (opcodeTable.map (·.matchWord)).Nodup := by decide
  exact hmatch.of_map

/-- Settles O5: in a table without repetition the word keeps the row of its instruction alone. -/
theorem everyWordHasOneRow : Obligations.EveryWordHasOneRow := by
  intro w
  have hrow : ∀ r ∈ opcodeTable, (w &&& r.mask == r.matchWord) = (r == (decodeWord w).row) := by
    intro r hr
    obtain ⟨i, rfl⟩ := exists_row_of_mem_opcodeTable hr
    rw [Bool.eq_iff_iff, beq_iff_eq, beq_iff_eq, and_row_mask_eq_iff]
  rw [List.filter_congr hrow, List.filter_beq,
    List.count_eq_one_of_mem opcodeTable_nodup (row_mem_opcodeTable _), List.replicate_one]

end Sys2Proof
end

section
/-! The lines of the sample notation (30_encoding.md R46): the words of the two framing lines, and the
class of the code a name stands for. -/

namespace Sys2Proof.Machine

/-- A framing line with both strobes 0 (30_encoding.md R46). -/
theorem assemble_fe0 (p : Params) (a : AddrCode) (d : Half) :
    assemble p (.fe0 a d) = some (d.setWidth 32 ||| a.setWidth 32 <<< 16) := by
  simp [assemble, assembleSample, encodeSample]

/-- A framing line with both strobes 1 (30_encoding.md R46). -/
theorem assemble_fe1 (p : Params) (a : AddrCode) (d : Half) :
    assemble p (.fe1 a d) = some (d.setWidth 32 ||| a.setWidth 32 <<< 16 ||| 0x03000000#32) := by
  simp [assemble, assembleSample, encodeSample, BitVec.or_assoc]

/-- The code found for a class in the map has that class (40_register_map.md R47). -/
theorem classOf_of_idxOf? (p : Params) (c : RegClass) (k : Nat)
    (h : p.addrMap.toList.idxOf? c = some k) : classOf p (BitVec.ofNat 5 k) = c := by
  obtain ⟨hlt, hget, -⟩ := List.idxOf?_eq_some_iff.mp h
  have hk : k < 32 := by simpa using hlt
  simpa [classOf, Vector.get, Nat.mod_eq_of_lt hk] using hget

/-- A name that is no raw code stands only for a code of its class (30_encoding.md R46). -/
theorem classOf_of_codeOfName (p : Params) (n : RegName) (a : AddrCode)
    (h : codeOfName p n = some a) (hn : ∀ b, n ≠ .unknown b) : classOf p a = classOfName n := by
  rw [codeOfName_name p n hn] at h
  split at h
  · obtain ⟨k, hk, rfl⟩ := Option.map_eq_some_iff.mp h
    exact classOf_of_idxOf? p _ k hk
  · exact absurd h (by simp)

/-- Settles O7, line by line; a raw code stands for itself, so a name for another code is none. -/
theorem assembledLineWord : Obligations.AssembledLineWord := by
  intro p n d a h
  refine ⟨?_, ?_, assemble_fe0 p a d, assemble_fe1 p a d, fun hn => ?_⟩
  · rw [assemble_rd, h, Option.map_some, encodeSample_readSample, BitVec.or_assoc, BitVec.or_comm,
      BitVec.or_comm (_ <<< _)]
  · rw [assemble_wr, h, Option.map_some, encodeSample_writeSample, BitVec.or_assoc, BitVec.or_comm,
      BitVec.or_comm (_ <<< _)]
  · refine classOf_of_codeOfName p n a h fun b hb => hn ?_
    subst hb
    exact congrArg RegName.unknown (Option.some.inj h)

end Sys2Proof.Machine
end

section
/-! The names of the Register Map (40_register_map.md R47 to R50, R58; 30_encoding.md R46): the name of a
class in each direction, and the one code a name stands for under a well-formed map. -/

namespace Sys2Proof.Machine

/-! ### Names by direction -/

/-- The lookup goes through the class of the code alone (40_register_map.md R50). -/
theorem registerFor_of_classOf {p : Params} {a : AddrCode} {c : RegClass} (h : classOf p a = c) :
    registerFor p a true = regName c a true ∧ registerFor p a false = regName c a false := by
  rw [registerFor, registerFor, h]
  exact ⟨rfl, rfl⟩

/-- Settles O36: each clause is the row of one class in the table of 40_register_map.md R49. -/
theorem registerNamesByDirection : Obligations.RegisterNamesByDirection := fun _ _ =>
  ⟨registerFor_of_classOf, registerFor_of_classOf, registerFor_of_classOf, registerFor_of_classOf,
    registerFor_of_classOf, registerFor_of_classOf, registerFor_of_classOf, registerFor_of_classOf,
    registerFor_of_classOf, registerFor_of_classOf⟩

/-! ### The codes of a class -/

/-- The class of a code is the map's entry at the code (40_register_map.md R47). -/
theorem classOf_eq_get (p : Params) (a : AddrCode) :
    classOf p a = p.addrMap.toList.get ⟨a.toNat, by simpa using a.isLt⟩ := by
  simp [classOf, Vector.get]

/-- Two codes of one class count as two. -/
theorem two_le_codeCount {p : Params} {c : RegClass} {a b : AddrCode}
    (hab : a.toNat < b.toNat) (ha : classOf p a = c) (hb : classOf p b = c) : 2 ≤ p.codeCount c := by
  rw [classOf_eq_get] at ha hb
  exact List.duplicate_iff_two_le_count.mp
    (List.duplicate_iff_exists_distinct_get.mpr ⟨_, _, hab, ha.symm, hb.symm⟩)

/-- A class with one code has no second one. -/
theorem eq_of_codeCount_eq_one {p : Params} {c : RegClass} {a b : AddrCode}
    (hc : p.codeCount c = 1) (ha : classOf p a = c) (hb : classOf p b = c) : a = b := by
  rcases lt_trichotomy a.toNat b.toNat with hab | hab | hab
  · have := two_le_codeCount hab ha hb
    omega
  · exact BitVec.eq_of_toNat_eq hab
  · have := two_le_codeCount hab hb ha
    omega

/-- A well-formed map gives each of the nine register classes one code (40_register_map.md R58). -/
theorem codeCount_of_wellFormed {p : Params} {c : RegClass} (hp : p.wellFormed = true)
    (hc : c ∈ RegClass.known) : p.codeCount c = 1 :=
  beq_iff_eq.mp (List.all_eq_true.mp hp c hc)

/-! ### The code of a name -/

/-- The class of a name that is no raw code is one of the nine (30_encoding.md R46). -/
theorem classOfName_mem_known {n : RegName} (hn : ∀ a, n ≠ .unknown a) :
    classOfName n ∈ RegClass.known := by
  cases n with
  | unknown a => exact absurd rfl (hn a)
  | _ => decide

/-- Under a well-formed map a name that is no raw code stands for a code (30_encoding.md R46). -/
theorem exists_codeOfName {p : Params} {n : RegName} (hp : p.wellFormed = true)
    (hn : ∀ a, n ≠ .unknown a) : ∃ a, codeOfName p n = some a := by
  have hcount := codeCount_of_wellFormed hp (classOfName_mem_known hn)
  have hmem : classOfName n ∈ p.addrMap.toList :=
    List.count_pos_iff.mp (by rw [Params.codeCount] at hcount; omega)
  obtain ⟨k, hk⟩ := Option.isSome_iff_exists.mp (List.isSome_idxOf?.mpr hmem)
  exact ⟨BitVec.ofNat 5 k, by rw [codeOfName_name p n hn, if_pos hp, hk, Option.map_some]⟩

/-- Under an ill-formed map a name that is no raw code stands for nothing (93 U12). -/
theorem codeOfName_of_not_wellFormed {p : Params} {n : RegName} (hp : p.wellFormed = false)
    (hn : ∀ a, n ≠ .unknown a) : codeOfName p n = none := by
  simp [codeOfName_name p n hn, hp]

/-- Settles O8: the code found has the name's class, and a class with one code has no second one. -/
theorem namesDenoteOneCode : Obligations.NamesDenoteOneCode := by
  intro p n hn
  refine ⟨fun hp => ?_, fun hp => ?_⟩
  · obtain ⟨a, ha⟩ := exists_codeOfName hp hn
    have hclass : classOf p a = classOfName n := classOf_of_codeOfName p n a ha hn
    have hcount := codeCount_of_wellFormed hp (classOfName_mem_known hn)
    exact ⟨a, ha, fun a' => ⟨fun ha' => eq_of_codeCount_eq_one hcount ha' hclass,
      fun h => h ▸ hclass⟩⟩
  · have hnone := codeOfName_of_not_wellFormed hp hn
    exact ⟨hnone, fun d => ⟨by rw [assemble_rd, hnone, Option.map_none],
      by rw [assemble_wr, hnone, Option.map_none]⟩⟩

end Sys2Proof.Machine
end

section
/-! The flag breakdowns, the annotation and the command lookup (40_register_map.md R51 to R56, R60;
42_framing_direction_annotation.md R69, R70). -/

namespace Sys2Proof.Machine

/-! ### Breakdowns -/

/-- A breakdown leaves no token out (40_register_map.md R53). -/
@[simp] theorem flagTokens_length (names : Vector String 8) (bits : Vector Bool 8) :
    (flagTokens names bits).length = 8 := by
  simp [flagTokens]

/-- The token at a position is that position's name or the placeholder (40_register_map.md R53). -/
theorem flagTokens_getElem? (names : Vector String 8) (bits : Vector Bool 8) (q : Fin 8) :
    (flagTokens names bits)[q.val]? =
      some (if bits.get q then .name (names.get q) else .placeholder) := by
  simp [flagTokens, Vector.get]

/-- The bits stand most significant first (40_register_map.md R51, R52). -/
@[simp] theorem flagBits_get (b : Byte) (q : Fin 8) :
    (flagBits b).get q = b.getLsbD (7 - q.val) :=
  Vector.getElem_ofFn q.isLt

/-- Settles O37: the tokens of a vocabulary over the bits of the byte, for both vocabularies. -/
theorem flagBreakdownHasEightTokens : Obligations.FlagBreakdownHasEightTokens := by
  intro p b
  refine ⟨flagTokens_length _ _, flagTokens_length _ _, fun q => ⟨?_, ?_⟩⟩
  · rw [statusFlags, flagTokens_getElem?, flagBits_get, vocabNames]
  · rw [errorFlags, flagTokens_getElem?, flagBits_get, vocabNames]

/-! ### Annotation -/

/-- What an access can be annotated with (42_framing_direction_annotation.md R70). -/
theorem annotationOf_cases (p : Params) (cls : RegClass) (isRead : Bool) (d : Half) :
    (isRead = true ∧ (cls = .cStat ∨ cls = .cAlt) ∧
      annotationOf p cls isRead d = .aFlags .vocStatus (flagBits (lo8 d))) ∨
    (isRead = true ∧ cls = .cErr ∧
      annotationOf p cls isRead d = .aFlags .vocError (flagBits (lo8 d))) ∨
    (isRead = false ∧ cls = .cStat ∧
      annotationOf p cls isRead d = .aCmd (lo8 d) (lookupCommand p (lo8 d))) ∨
    (¬ (isRead = true ∧ (cls = .cStat ∨ cls = .cAlt ∨ cls = .cErr)) ∧
      ¬ (isRead = false ∧ cls = .cStat) ∧ annotationOf p cls isRead d = .aNone) := by
  unfold annotationOf
  split
  · next h => simpa using h
  · split
    · next h => simpa using h
    · split
      · next h => simpa using h
      · simp_all

/-- Settles O38: the four annotations differ, so each is given in its own case only. -/
theorem annotationByClassAndDirection : Obligations.AnnotationByClassAndDirection := by
  intro p cls isRead d
  rcases annotationOf_cases p cls isRead d with
    ⟨rfl, rfl | rfl, h⟩ | ⟨rfl, rfl, h⟩ | ⟨rfl, rfl, h⟩ | ⟨hno, hnocmd, h⟩
  · simp [h]
  · simp [h]
  · simp [h]
  · simp [h]
  · simp_all

/-! ### Command lookup -/

/-- The first entry with a code gives its name (40_register_map.md R55, R60). -/
theorem cmdName_of_first {p : Params} {code : Byte} {pre post : List (Byte × String)} {n : String}
    (htable : p.cmdNames = pre ++ (code, n) :: post) (hpre : ∀ e ∈ pre, e.1 ≠ code) :
    cmdName p code = some n :=
  List.lookup_eq_some_iff.mpr ⟨pre, post, htable, fun e he => bne_iff_ne.mpr (hpre e he).symm⟩

/-- A code of no entry has no name (40_register_map.md R55). -/
theorem cmdName_of_absent {p : Params} {code : Byte} (h : ∀ e ∈ p.cmdNames, e.1 ≠ code) :
    cmdName p code = none :=
  List.lookup_eq_none_iff.mpr fun e he => bne_iff_ne.mpr (h e he).symm

/-- Settles O39: the name shown is the lookup's, and `UNKNOWN` where the lookup finds none. -/
theorem firstCommandNameWins : Obligations.FirstCommandNameWins := by
  intro p code
  refine ⟨fun pre post n htable hpre => ?_, fun h => ?_⟩
  · rw [lookupCommand, cmdName_of_first htable hpre, Option.getD_some]
  · rw [lookupCommand, cmdName_of_absent h, Option.getD_none, unknownCommand]

end Sys2Proof.Machine
end

section
/-! The Sample Codec (41_sample_codec.md): the round trips of a sample, of a word up to its reserved
bits and of an instruction, and the fields of a record in arithmetic on its bytes. -/

namespace Sys2Proof

/-! ### Instruction and word -/

/-- 41_sample_codec.md R63 for instructions: the row selection (30_encoding.md R45) finds the row. -/
@[simp] theorem decodeWord_encodeWord (i : Instr) : decodeWord (encodeWord i) = i := by
  rw [decodeWord, encodeWord, decodeSample_encodeSample, ofSample_sample]

/-- Settles O1: the bytes of the record give the word, and the word its instruction. -/
theorem decodeEncodeAgree : Obligations.DecodeEncodeAgree := by
  intro i rest
  rw [encode, decode_wordBytes, decodeWord_encodeWord]

/-! ### Reserved bits -/

/-- The sample with every bit of its fields set, the mask that keeps all four fields. -/
def Sample.allOnes : Sample where
  data := BitVec.allOnes 16
  address := BitVec.allOnes 5
  dior := BitVec.allOnes 1
  diow := BitVec.allOnes 1

@[simp] theorem Sample.masked_allOnes (s : Sample) : s.masked Sample.allOnes = s := by
  simp only [Sample.masked, Sample.allOnes, BitVec.and_allOnes]

/-- The bits of a record word that carry a field (30_encoding.md R36). -/
theorem encodeSample_allOnes : encodeSample Sample.allOnes = 0x031FFFFF#32 := by decide

/-- 41_sample_codec.md R64: encoding what a word decodes to clears its reserved bits. -/
theorem encodeSample_decodeSample (w : Word) :
    encodeSample (decodeSample w) = w &&& 0x031FFFFF#32 := by
  rw [← encodeSample_allOnes, and_encodeSample, Sample.masked_allOnes]

/-- Settles O3: words agree under the mask exactly if their samples have the same encoding. -/
theorem encodeDecodeClearsReservedBits : Obligations.EncodeDecodeClearsReservedBits := by
  refine ⟨encodeSample_decodeSample, fun w w' => ?_⟩
  rw [← encodeSample_decodeSample, ← encodeSample_decodeSample, encodeSample_inj]

/-! ### Bytes and word -/

/-- Appending puts the left word above the bits of the right one. -/
theorem toNat_append_eq_add {m n : Nat} (x : BitVec m) (y : BitVec n) :
    (x ++ y).toNat = 2 ^ n * x.toNat + y.toNat := by
  rw [BitVec.toNat_append, ← Nat.shiftLeft_add_eq_or_of_lt y.isLt, Nat.shiftLeft_eq, Nat.mul_comm]

/-- The bytes of a word are its base-256 digits, lowest address first (20_memory.md R23). -/
theorem le32_toNat (b0 b1 b2 b3 : Byte) :
    (le32 b0 b1 b2 b3).toNat =
      b0.toNat + 2 ^ 8 * b1.toNat + 2 ^ 16 * b2.toNat + 2 ^ 24 * b3.toNat := by
  simp only [le32, toNat_append_eq_add]
  omega

/-- Settles O2: the word of a sample carries its fields, and the bytes of a word read back as it. -/
theorem sampleRoundTrip : Obligations.SampleRoundTrip := by
  refine ⟨decodeSample_encodeSample, fun w => ⟨_, _, _, _, rfl, le32_wordBytes w, ?_⟩⟩
  rw [← le32_toNat, le32_wordBytes]

/-- Settles O4: a field is a quotient and a remainder of the word, whose digits are the bytes. -/
theorem fieldsOfRecordBytes : Obligations.FieldsOfRecordBytes := by
  intro b0 b1 b2 b3
  have hword := le32_toNat b0 b1 b2 b3
  have h0 := b0.isLt
  have h1 := b1.isLt
  have h2 := b2.isLt
  simp only [decodeSample, BitVec.extractLsb'_toNat, Nat.shiftRight_eq_div_pow, hword]
  refine ⟨?_, ?_, ?_, ?_⟩ <;> omega

end Sys2Proof
end

section
/-! The fetch of the next item (41_sample_codec.md R65). -/

namespace Sys2Proof.Machine

/-- Settles O9: the length left after the fetch position selects the branch of the fetch. -/
theorem nextItemOutcomes : Obligations.NextItemOutcomes := by
  intro m i
  refine ⟨nextItem_eq_sampleAt m i, fun hend => ?_, fun k hk hk3 hlen => ?_, fun hover => ?_⟩
  · rw [nextItem_eq, if_neg (by omega), if_neg (by omega), if_pos hend]
  · rw [nextItem_eq, if_neg (by omega), if_neg (by omega), if_neg (by omega), hlen,
      Nat.add_sub_cancel_left]
  · rw [nextItem_eq, if_pos hover]

end Sys2Proof.Machine
end

section
/-! The framing check (42_framing_direction_annotation.md R67): an `F_FRAMING` frame comes from a record
with equal strobes and from no other. -/

namespace Sys2Proof.Safety

open Sys2Proof.Machine

/-- The strobes of a word are its bits 24 and 25 (30_encoding.md R36). -/
theorem isFraming_decodeSample (w : Word) :
    isFraming (decodeSample w) = true ↔ w.getLsbD 24 = w.getLsbD 25 := by
  simp [isFraming, decodeSample, BitVec.eq_of_getLsbD_eq_iff]

/-- A close emits no `F_FRAMING` (44_data_burst.md R84). -/
theorem isFramingFrame_of_mem_burstFrames {b : Option Burst} {f : Frame} (h : f ∈ burstFrames b) :
    isFramingFrame f = false := by
  obtain ⟨b, -, rfl⟩ := List.mem_map.mp h
  rfl

/-- A record with equal strobes appends its `F_FRAMING` and no other frame (60_exceptions.md R152). -/
theorem recordEffect_out_of_framing {smp : Sample} (s : State) (h : isFraming smp = true) :
    (recordEffect smp s).out =
      s.out ++ [.fFraming { idx := s.idx, sample := smp, cat := .catError }] := by
  rw [recordEffect, if_pos h, takeException_framingError]

/-- A record with unequal strobes appends no `F_FRAMING` (46_decoder_step.md R114, steps 2 to 6). -/
theorem recordEffect_appends_of_not_framing {smp : Sample} (s : State) (h : isFraming smp = false) :
    ∃ fs, (recordEffect smp s).out = s.out ++ fs ∧ ∀ f ∈ fs, isFramingFrame f = false := by
  rcases recordEffect_cases smp s with ⟨hf, -⟩ | ⟨-, -, he⟩ | ⟨-, -, he⟩
  · simp [h] at hf
  · rw [he, dataSample_eq]
    exact ⟨[], (List.append_nil _).symm, by simp⟩
  · rw [he, regSample_eq]
    refine ⟨_, rfl, fun f hf => ?_⟩
    rcases List.mem_append.mp hf with hf | hf
    · exact isFramingFrame_of_mem_burstFrames hf
    · split at hf
      · exact absurd hf List.not_mem_nil
      · obtain rfl := List.mem_singleton.mp hf
        rfl

/-- A record appends an `F_FRAMING` for its own index exactly if its strobes are equal (R67). -/
theorem recordEffect_appends_framing_iff (smp : Sample) (s : State) :
    (∃ fs f, (recordEffect smp s).out = s.out ++ fs ∧ Frame.fFraming f ∈ fs ∧ f.idx = s.idx) ↔
      isFraming smp = true := by
  constructor
  · rintro ⟨fs, f, hout, hf, -⟩
    by_contra hn
    obtain ⟨gs, hgs, hno⟩ := recordEffect_appends_of_not_framing s (Bool.eq_false_of_not_eq_true hn)
    obtain rfl : fs = gs := List.append_cancel_left (hout.symm.trans hgs)
    exact Bool.noConfusion (hno _ hf)
  · intro h
    exact ⟨_, _, recordEffect_out_of_framing s h, List.mem_singleton_self _, rfl⟩

/-- Settles O19: the step is the effect of the word's sample, whose strobes are the two bits. -/
theorem framingFrameIffStrobesEqual : Obligations.FramingFrameIffStrobesEqual := by
  intro w s t h
  rw [exec_eq, decodeWord, sample_ofSample] at h
  obtain ⟨-, rfl⟩ := inRun_next _ _ _ h
  rw [recordEffect_appends_framing_iff, isFraming_decodeSample]

end Sys2Proof.Safety
end

section
/-! What moves a tracker (43_duplicate_suppression.md R78): a non-framing read of its own class, and
neither another record nor the end of a pass. -/

namespace Sys2Proof.Safety

open Sys2Proof.Machine

/-- The class of a record whose strobes differ (30_encoding.md R45). -/
theorem classify_of_not_framing (p : Params) {smp : Sample} (h : isFraming smp = false) :
    classify p smp = .access (isReadSample smp) (classOf p smp.address) :=
  if_neg (Bool.eq_false_iff.mp h)

/-- What a record leaves in the trackers, by the three cases of a record. -/
theorem recordEffect_trackers (smp : Sample) (s : State) :
    (recordEffect smp s).trkS = (if classify s.params smp = .access true .cStat
      then some { lastIdx := s.idx, lastData := smp.data } else s.trkS) ∧
    (recordEffect smp s).trkA = (if classify s.params smp = .access true .cAlt
      then some { lastIdx := s.idx, lastData := smp.data } else s.trkA) := by
  rcases recordEffect_cases smp s with ⟨hf, he⟩ | ⟨hf, hc, he⟩ | ⟨hf, -, he⟩
  · rw [he, takeException_framingError]
    simp [classify, hf]
  · rw [he, dataSample_eq, classify_of_not_framing _ hf, hc]
    simp
  · rw [he, regSample_eq, classify_of_not_framing _ hf]
    simp [isDupCandidate_and_cStat, isDupCandidate_and_ne_cStat]

/-- A record leaves the phase alone, so no record ends a pass (10_state.md R17). -/
theorem recordEffect_phase (smp : Sample) (s : State) : (recordEffect smp s).phase = s.phase := by
  rcases recordEffect_cases smp s with ⟨-, he⟩ | ⟨-, -, he⟩ | ⟨-, -, he⟩
  · rw [he, takeException_framingError]
  · rw [he, dataSample_eq]
  · rw [he, regSample_eq]

/-- Settles O40: an instruction does what its sample calls for, and a step that ends a pass is no
record but the end of the store or its tail. -/
theorem trackersFollowOnlyTheirOwnReads : Obligations.TrackersFollowOnlyTheirOwnReads := by
  refine ⟨fun i s t h => ?record, fun s t h hend => ?passEnd⟩
  case record =>
    rw [exec_eq] at h
    obtain ⟨-, rfl⟩ := inRun_next _ _ _ h
    exact recordEffect_trackers i.sample s
  case passEnd =>
    obtain ⟨hp, ⟨-, hexec⟩ | ⟨-, rfl⟩ | ⟨-, -, rfl⟩⟩ := step_cases s t h
    · rw [exec_eq] at hexec
      obtain ⟨-, rfl⟩ := inRun_next _ _ _ hexec
      exact absurd ((recordEffect_phase _ s).trans hp) hend
    · rw [endOfInput_eq]
      exact ⟨rfl, rfl⟩
    · rw [truncated_eq]
      exact ⟨rfl, rfl⟩

end Sys2Proof.Safety
end

section
/-! A chain of equal STATUS reads (43_duplicate_suppression.md R76, R77): the first is emitted and sets
the marker, every further one finds the marker just behind it and moves it along. -/

namespace Sys2Proof.Safety

open Sys2Proof.Machine

/-- A run whose first record completes goes on from there (46_decoder_step.md R113). -/
theorem runInstrs_cons {i : Instr} {s t : State} (is : List Instr) (h : exec i s = .next t) :
    runInstrs (i :: is) s = runInstrs is t := by
  rw [runInstrs, h]

/-- Everything a STATUS read does (45_sample_classes.md R107). -/
theorem exec_rdStatus (d : Half) (s : State) (hp : s.phase = .run)
    (hc : classOf s.params 0x17#5 = .cStat) :
    exec (.rdStatus d) s = .next { s with
      idx := s.idx + 1
      burst := none
      trkS := some { lastIdx := s.idx, lastData := d }
      out := s.out ++ (burstFrames s.burst ++
        if isDuplicate s.trkS s.idx d then []
        else [.fReg (regFrame s.params (readSample 0x17#5 d) true s.idx)]) } := by
  have hsample : (Instr.rdStatus d).sample = readSample 0x17#5 d := rfl
  have hcand : isDupCandidate .cStat true = true := rfl
  have htrk : trackerOf .cStat s = s.trkS := rfl
  rw [exec_eq, inRun_run _ _ hp, hsample, recordEffect_readSample, hc, if_neg (by decide),
    regSample_eq, isSuppressed, hcand, htrk]
  rfl

/-- The state whose last record, at index `i`, was a STATUS read of `d`: the marker stands on it. -/
def polledAt (d : Half) (i : Nat) (s : State) : State :=
  { s with idx := i + 1, trkS := some { lastIdx := i, lastData := d } }

/-- One more equal read is suppressed and moves the marker (R76). -/
theorem exec_rdStatus_polledAt (d : Half) (i : Nat) (s : State) (hp : s.phase = .run)
    (hc : classOf s.params 0x17#5 = .cStat) (hb : s.burst = none) :
    exec (.rdStatus d) (polledAt d i s) = .next (polledAt d (i + 1) s) := by
  have hdup : isDuplicate (polledAt d i s).trkS (polledAt d i s).idx d = true :=
    (isDuplicate_iff _ _ _).mpr ⟨i, rfl, rfl⟩
  rw [exec_rdStatus d (polledAt d i s) hp hc, if_pos hdup]
  simp [polledAt, hb]

/-- A chain of equal reads moves the marker and does nothing else (R76). -/
theorem runInstrs_rdStatus_polledAt (d : Half) (n i : Nat) (s : State) (hp : s.phase = .run)
    (hc : classOf s.params 0x17#5 = .cStat) (hb : s.burst = none) :
    runInstrs (List.replicate n (.rdStatus d)) (polledAt d i s) = .next (polledAt d (i + n) s) := by
  induction n generalizing i with
  | zero => rfl
  | succ n ih =>
    rw [List.replicate_succ, runInstrs_cons _ (exec_rdStatus_polledAt d i s hp hc hb), ih,
      Nat.add_right_comm, Nat.add_assoc]

/-- The first read of the register is emitted and sets the marker (R77). -/
theorem exec_rdStatus_first (d : Half) (s : State) (hp : s.phase = .run)
    (hc : classOf s.params 0x17#5 = .cStat) (ht : s.trkS = none) (hb : s.burst = none) :
    exec (.rdStatus d) s = .next (polledAt d s.idx (emitReg (readSample 0x17#5 d) true s)) := by
  have hnodup : isDuplicate s.trkS s.idx d = false := by rw [ht]; rfl
  rw [exec_rdStatus d s hp hc, hnodup]
  simp [polledAt, emitReg, emit, hb]

/-- Settles O41: the first read is emitted and sets the marker, the chain behind it only moves it. -/
theorem pollingChainEmitsFirstOnly : Obligations.PollingChainEmitsFirstOnly := by
  intro n d s hp hc ht hb
  obtain ⟨hreg, -⟩ := registerFor_of_classOf hc
  refine ⟨regFrame s.params (readSample 0x17#5 d) true s.idx, rfl, hreg, ?_⟩
  rw [List.replicate_succ, runInstrs_cons _ (exec_rdStatus_first d s hp hc ht hb),
    runInstrs_rdStatus_polledAt d n s.idx (emitReg (readSample 0x17#5 d) true s) hp hc hb]
  rfl

end Sys2Proof.Safety
end

section
/-! Suppression said of the store (43_duplicate_suppression.md R79): (b) a register access adds nothing
exactly if it is the second of two equal reads, for (a) the first of the two has closed any burst. -/

namespace Sys2Proof.Safety

open Sys2Proof.Machine

/-- A read of a register other than DATA leaves no burst open (44_data_burst.md R83). -/
theorem openBurst_succ_of_readAt (m : Memory) (p : Params) (c : RegClass) (n : Nat)
    (h : readAt m p c n = true) (hc : c ≠ .cData) : openBurst m p (n + 1) = none := by
  have hf : framingAt m n = false := by
    by_contra hf
    rw [readAt_framing m p c n (Bool.eq_true_of_not_eq_false hf)] at h
    exact Bool.noConfusion h
  obtain ⟨-, hclass⟩ := (readAt_iff m p c n hf).mp h
  have hd : dataAt m p n = false := by
    rw [dataAt_eq m p n hf, hclass]
    exact beq_false_of_ne hc
  rw [openBurst_succ, hf, hd]
  rfl

/-- 43_duplicate_suppression.md R79 (a): the record before a suppressed one has closed any burst. -/
theorem openBurst_of_suppressedAt (m : Memory) (p : Params) (i : Nat)
    (h : suppressedAt m p i = true) : openBurst m p i = none := by
  simp only [suppressedAt, Bool.and_eq_true, Bool.or_eq_true, decide_eq_true_eq] at h
  obtain ⟨⟨hi, hreads⟩, -⟩ := h
  obtain ⟨n, rfl⟩ := Nat.exists_eq_add_of_le' hi
  rcases hreads with ⟨hprev, -⟩ | ⟨hprev, -⟩
  · exact openBurst_succ_of_readAt m p .cStat n hprev (by decide)
  · exact openBurst_succ_of_readAt m p .cAlt n hprev (by decide)

/-- A register access causes no frame exactly if it is suppressed (R79). -/
theorem framesAt_eq_nil_iff (m : Memory) (p : Params) (i : Nat) (hf : framingAt m i = false)
    (hd : dataAt m p i = false) : framesAt m p i = [] ↔ suppressedAt m p i = true := by
  have hc : classOf p (sampleAt m i).address ≠ .cData := by
    rw [dataAt_eq m p i hf] at hd
    exact ne_of_beq_false hd
  rw [framesAt_register m p i hf hc]
  cases hs : suppressedAt m p i with
  | true => simp [openBurst_of_suppressedAt m p i hs]
  | false => simp

/-- Settles O42: the step appends the frames the store calls for, which are none for a duplicate only. -/
theorem suppressedIffEqualAdjacentReads : Obligations.SuppressedIffEqualAdjacentReads := by
  intro s t hinv hstep hlen hf hd
  obtain ⟨hp, -⟩ := step_cases s t hstep
  have hseen := hinv.seenFromStore hp
  rw [step_record s hp hlen, recordEffect_eq_consumed s hseen] at hstep
  obtain rfl := Host.Outcome.next.inj hstep
  refine ⟨?emitsNothing, fun hs => hseen.burst.trans (openBurst_of_suppressedAt _ _ _ hs)⟩
  case emitsNothing =>
    show s.out ++ framesAt s.src s.params s.idx = s.out ↔ _
    rw [List.append_right_eq_self, framesAt_eq_nil_iff _ _ _ hf hd]

end Sys2Proof.Safety
end

section
/-! The dump of a burst (44_data_burst.md R84, R85): a row is a slice of eight samples, and the slices
together are the buffer. -/

namespace Sys2Proof.Machine

/-- The slices of eight, laid end to end, are the list up to where they reach. -/
theorem flatMap_range_slices {α : Type} (l : List α) (k : Nat) :
    ((List.range k).flatMap fun r => (l.drop (8 * r)).take 8) = l.take (8 * k) := by
  induction k with
  | zero => simp
  | succ k ih => simp [List.range_succ, ih, Nat.mul_succ, List.take_add]

theorem flatMap_sampleBytes_length (ds : List Half) :
    (ds.flatMap sampleBytes).length = 2 * ds.length := by
  have hbytes : ∀ d, (sampleBytes d).length = 2 := fun _ => rfl
  simp [List.length_flatMap, hbytes, Nat.mul_comm]

/-- Two bytes for each of the at most eight samples a row covers (R85). -/
theorem dumpRow_bytes_length (buf : List Half) (r : Nat) :
    (dumpRow buf r).bytes.length = 2 * min 8 (buf.length - 8 * r) := by
  simp only [dumpRow, flatMap_sampleBytes_length, List.length_take, List.length_drop]

theorem dumpRows_length (buf : List Half) :
    (dumpRows buf).length = (buf.length + 7) / 8 := by
  simp [dumpRows]

theorem dumpRows_getElem?_eq_some {buf : List Half} {r : Nat} {row : Row}
    (h : (dumpRows buf)[r]? = some row) : r < (buf.length + 7) / 8 ∧ row = dumpRow buf r := by
  obtain ⟨hr, hrow⟩ := List.getElem?_eq_some_iff.mp h
  exact ⟨dumpRows_length buf ▸ hr, by simpa [dumpRows] using hrow.symm⟩

/-- The rows together dump every sample of the buffer in order (R85). -/
theorem dumpRows_flatMap_bytes (buf : List Half) :
    ((dumpRows buf).flatMap fun r => r.bytes) = buf.flatMap sampleBytes := by
  have hreach : buf.length ≤ 8 * ((buf.length + 7) / 8) := by omega
  calc ((dumpRows buf).flatMap fun r => r.bytes)
      = (List.range ((buf.length + 7) / 8)).flatMap
          fun r => ((buf.drop (8 * r)).take 8).flatMap sampleBytes := List.flatMap_map ..
    _ = ((List.range ((buf.length + 7) / 8)).flatMap
          fun r => (buf.drop (8 * r)).take 8).flatMap sampleBytes := List.flatMap_assoc.symm
    _ = buf.flatMap sampleBytes := by rw [flatMap_range_slices, List.take_of_length_le hreach]

/-- Settles O24: the rows are the slices of the buffer, and only the last can be short. -/
theorem burstFrameDumpsItsBuffer : Obligations.BurstFrameDumpsItsBuffer := by
  intro b hb
  have hpos : 0 < b.buf.length := List.length_pos_of_ne_nil hb
  refine ⟨_, rfl, rfl, rfl, rfl, rfl, dumpRows_length b.buf, dumpRows_flatMap_bytes b.buf,
    fun r row hrow => ?_⟩
  obtain ⟨hr, rfl⟩ := dumpRows_getElem?_eq_some hrow
  refine ⟨rfl, rfl, ?full, ?last⟩ <;> rw [dumpRow_bytes_length, dumpRows_length]
  case full => omega
  case last => omega

end Sys2Proof.Machine
end

section
/-! A run of DATA samples (44_data_burst.md R81, R82, R88): the first opens a burst, every further one is
absorbed whatever its direction, and the next access to another register closes it (R83). -/

namespace Sys2Proof.Safety

open Sys2Proof.Machine

theorem isDataInstr_iff (p : Params) (i : Instr) :
    isDataInstr p i = true ↔ isFraming i.sample = false ∧ classOf p i.sample.address = .cData := by
  unfold isDataInstr classify
  cases isFraming i.sample <;> cases isReadSample i.sample <;> simp

theorem isRegInstr_iff (p : Params) (i : Instr) :
    isRegInstr p i = true ↔ isFraming i.sample = false ∧ classOf p i.sample.address ≠ .cData := by
  simp [isRegInstr]

/-- The state that has come to index `n` with the burst `b` open, and is otherwise `s`. -/
def burstOpenAt (n : Nat) (b : Burst) (s : State) : State :=
  { s with idx := n, burst := some b }

@[simp] theorem burstOpenAt_burstOpenAt (n m : Nat) (b c : Burst) (s : State) :
    burstOpenAt n b (burstOpenAt m c s) = burstOpenAt n b s := rfl

/-- Everything a DATA instruction does (45_sample_classes.md R93, R94). -/
theorem exec_of_isDataInstr {i : Instr} {s : State} (hp : s.phase = .run)
    (hi : isDataInstr s.params i = true) :
    exec i s = .next (burstOpenAt (s.idx + 1)
      (absorb s.idx (isReadSample i.sample) i.sample.data s.burst) s) := by
  obtain ⟨hf, hc⟩ := (isDataInstr_iff _ _).mp hi
  rw [exec_eq, inRun_run _ _ hp, recordEffect, hf, access_eq, if_pos hc, dataSample_eq]
  rfl

/-- An access to another register leaves no burst open, and appends the frame of the open burst and at
most its own (44_data_burst.md R83). -/
theorem exec_of_isRegInstr {e : Instr} {s : State} (hp : s.phase = .run)
    (he : isRegInstr s.params e = true) :
    ∃ t fs, exec e s = .next t ∧ t.burst = none ∧ t.out = s.out ++ (burstFrames s.burst ++ fs) ∧
      fs.length ≤ 1 ∧ ∀ f ∈ fs, f.kindCode = 0 ∧ f.key = s.idx := by
  obtain ⟨hf, hc⟩ := (isRegInstr_iff _ _).mp he
  have heffect : recordEffect e.sample s =
      regSample e.sample (isReadSample e.sample) (classOf s.params e.sample.address) s := by
    rw [recordEffect, hf, access_eq, if_neg hc]
    rfl
  rw [exec_eq, inRun_run _ _ hp, heffect, regSample_eq]
  refine ⟨_, _, rfl, rfl, rfl, ?length, fun f hmem => ?own⟩
  case length =>
    split
    · exact Nat.zero_le 1
    · exact Nat.le_refl 1
  case own =>
    split at hmem
    · exact absurd hmem List.not_mem_nil
    · obtain rfl := List.mem_singleton.mp hmem
      exact ⟨rfl, rfl⟩

/-- A run goes on where a first part of it ended (46_decoder_step.md R113). -/
theorem runInstrs_append {is : List Instr} {s t : State} (js : List Instr)
    (h : runInstrs is s = .next t) : runInstrs (is ++ js) s = runInstrs js t := by
  induction is generalizing s with
  | nil => rw [Host.Outcome.next.inj h, List.nil_append]
  | cons i is ih =>
    cases hi : exec i s with
    | next u =>
      rw [runInstrs_cons is hi] at h
      rw [List.cons_append, runInstrs_cons (is ++ js) hi, ih h]
    | fault r => simp [runInstrs, hi] at h
    | refused r => simp [runInstrs, hi] at h

/-- DATA samples of either direction only lengthen the open burst (R82, R88). -/
theorem runInstrs_burstOpenAt (is : List Instr) (n : Nat) (b : Burst) (s : State)
    (hp : s.phase = .run) (his : ∀ j ∈ is, isDataInstr s.params j = true) :
    runInstrs is (burstOpenAt n b s) = .next (burstOpenAt (n + is.length)
      { b with buf := b.buf ++ is.map fun j => j.sample.data } s) := by
  induction is generalizing n b with
  | nil => simp [runInstrs]
  | cons i is ih =>
    obtain ⟨hi, hrest⟩ := List.forall_mem_cons.mp his
    have hexec : exec i (burstOpenAt n b s) =
        .next (burstOpenAt (n + 1) { b with buf := b.buf ++ [i.sample.data] } s) :=
      exec_of_isDataInstr hp hi
    rw [runInstrs_cons is hexec, ih _ _ hrest]
    simp [Nat.add_assoc, Nat.add_comm 1]

/-- The burst of a run of DATA instructions from index `n` on (R81). -/
def burstOfInstrs (n : Nat) (i : Instr) (is : List Instr) : Burst where
  start := n
  isRead := isReadSample i.sample
  buf := (i :: is).map fun j => j.sample.data

/-- The first DATA sample opens the burst, which absorbs the others (R81, R82). -/
theorem runInstrs_data (i : Instr) (is : List Instr) (s : State) (hp : s.phase = .run)
    (hb : s.burst = none) (hdata : ∀ j ∈ i :: is, isDataInstr s.params j = true) :
    runInstrs (i :: is) s =
      .next (burstOpenAt (s.idx + is.length + 1) (burstOfInstrs s.idx i is) s) := by
  obtain ⟨hi, hrest⟩ := List.forall_mem_cons.mp hdata
  have hexec := exec_of_isDataInstr hp hi
  rw [hb] at hexec
  rw [runInstrs_cons is hexec, runInstrs_burstOpenAt is _ _ s hp hrest, Nat.add_right_comm]
  rfl

/-- Settles O22: the state with the burst of the run open, its fields written out. -/
theorem dataRunBecomesOneBurst : Obligations.DataRunBecomesOneBurst :=
  runInstrs_data

/-- Settles O23: the run leaves its one burst open, and the closing access emits its frame, which has
the length and the rows of O24. -/
theorem dataRunYieldsOneBurstFrame : Obligations.DataRunYieldsOneBurstFrame := by
  intro i is e s hp hb hdata he
  have hrun := runInstrs_data i is s hp hb hdata
  obtain ⟨t, fs, hexec, htburst, htout, hlen, hown⟩ :=
    exec_of_isRegInstr (s := burstOpenAt (s.idx + is.length + 1) (burstOfInstrs s.idx i is) s) hp he
  obtain ⟨f, hclose, hstart, hdir, hbytes, -, hrows, -⟩ :=
    burstFrameDumpsItsBuffer (burstOfInstrs s.idx i is) (List.cons_ne_nil _ _)
  have hsize : (burstOfInstrs s.idx i is).buf.length = is.length + 1 := by simp [burstOfInstrs]
  rw [hsize] at hbytes hrows
  refine ⟨t, f, fs, ?runs, htburst, ?output, hstart, hdir, hbytes, hrows, hlen, hown⟩
  case runs => rw [runInstrs_append [e] hrun, runInstrs_cons [] hexec, runInstrs]
  case output => rw [htout, ← hclose]; rfl

end Sys2Proof.Safety
end

section
/-! A register access said by its direction, code and data (45_sample_classes.md R91): the word of its
record, its state after the step, and the fields of its frame. -/

namespace Sys2Proof.Safety

open Sys2Proof.Machine

/-! ### The record of an access -/

/-- The sample of an access in a direction (30_encoding.md R37). -/
def accessSample (isRead : Bool) (a : AddrCode) (d : Half) : Sample :=
  if isRead then readSample a d else writeSample a d

/-- The strobes of an access differ (42_framing_direction_annotation.md R67). -/
@[simp] theorem isFraming_accessSample (r : Bool) (a : AddrCode) (d : Half) :
    isFraming (accessSample r a d) = false := by
  cases r <;> rfl

@[simp] theorem isReadSample_accessSample (r : Bool) (a : AddrCode) (d : Half) :
    isReadSample (accessSample r a d) = r := by
  cases r <;> rfl

@[simp] theorem accessSample_address (r : Bool) (a : AddrCode) (d : Half) :
    (accessSample r a d).address = a := by
  cases r <;> rfl

@[simp] theorem accessSample_data (r : Bool) (a : AddrCode) (d : Half) :
    (accessSample r a d).data = d := by
  cases r <;> rfl

/-- The word of an access is the match of its row with the data in the low half (30_encoding.md R45,
R46). -/
theorem encodeWord_of_accessSample {i : Instr} {r : Bool} {a : AddrCode} {d : Half}
    (hi : i.sample = accessSample r a d) : encodeWord i = i.row.matchWord ||| d.setWidth 32 := by
  have hzero : (0#16).setWidth 32 = 0#32 := by decide
  rw [row_matchWord_eq_encodeSample, encodeWord, hi]
  cases r with
  | true =>
    show encodeSample (readSample a d) = encodeSample (readSample a 0#16) ||| d.setWidth 32
    rw [encodeSample_readSample, encodeSample_readSample, hzero, BitVec.or_zero]
  | false =>
    show encodeSample (writeSample a d) = encodeSample (writeSample a 0#16) ||| d.setWidth 32
    rw [encodeSample_writeSample, encodeSample_writeSample, hzero, BitVec.or_zero]

/-! ### The step -/

/-- A record of a class other than DATA is a register access (46_decoder_step.md R114, steps 4 and 6). -/
theorem exec_accessSample {i : Instr} {s : State} {r : Bool} {a : AddrCode} {d : Half} {c : RegClass}
    (hi : i.sample = accessSample r a d) (hp : s.phase = .run) (hc : classOf s.params a = c)
    (hdata : c ≠ .cData) : exec i s = .next (regSample (accessSample r a d) r c s) := by
  have hcls : classOf s.params (accessSample r a d).address = c := by rw [accessSample_address, hc]
  rw [exec_eq, inRun_run _ _ hp, hi, recordEffect, isFraming_accessSample, if_neg Bool.false_ne_true,
    access_eq, hcls, if_neg hdata, isReadSample_accessSample]

/-- The frame of an access, its fields written out (30_encoding.md R40). -/
theorem fReg_regFrame_accessSample {p : Params} {a : AddrCode} {c : RegClass} (hc : classOf p a = c)
    (r : Bool) (d : Half) (n : Nat) :
    Frame.fReg (regFrame p (accessSample r a d) r n) =
      line n d r (regName c a r) (annotationOf p c r d) (category (regName c a r) r) := by
  simp [regFrame, annotate, line, hc]

/-- An access that is no duplicate candidate closes an open burst and emits its frame
(45_sample_classes.md R91). -/
theorem exec_of_not_candidate {i : Instr} {s : State} {r : Bool} {a : AddrCode} {d : Half}
    {c : RegClass} (hi : i.sample = accessSample r a d) (hp : s.phase = .run)
    (hc : classOf s.params a = c) (hdata : c ≠ .cData) (hcand : isDupCandidate c r = false) :
    exec i s = .next { s with
      idx := s.idx + 1
      burst := none
      out := s.out ++ (burstFrames s.burst ++
        [line s.idx d r (regName c a r) (annotationOf s.params c r d)
          (category (regName c a r) r)]) } := by
  rw [exec_accessSample hi hp hc hdata, regSample_eq, fReg_regFrame_accessSample hc]
  simp [isSuppressed, hcand]

/-- A candidate moves its own tracker, closes an open burst, and emits its frame unless it is a duplicate
(43_duplicate_suppression.md R74 to R77). -/
theorem exec_of_candidate {i : Instr} {s : State} {a : AddrCode} {d : Half} {c : RegClass}
    (hi : i.sample = accessSample true a d) (hp : s.phase = .run) (hc : classOf s.params a = c)
    (hcand : c = .cStat ∨ c = .cAlt) :
    exec i s = .next { setTracker c { lastIdx := s.idx, lastData := d } s with
      idx := s.idx + 1
      burst := none
      out := s.out ++ (burstFrames s.burst ++
        if isDuplicate (trackerOf c s) s.idx d then []
        else [line s.idx d true (regName c a true) (.aFlags .vocStatus (flagBits (lo8 d)))
          .catStatus]) } := by
  rcases hcand with rfl | rfl <;>
    rw [exec_accessSample hi hp hc (by decide), regSample_eq, fReg_regFrame_accessSample hc] <;>
    rfl

/-! ### Annotation and category -/

/-- The bits of a breakdown are the low eight of the data, most significant first
(40_register_map.md R51, R52, R56). -/
theorem flagBits_lo8 (d : Half) :
    flagBits (lo8 d) = #v[d.getLsbD 7, d.getLsbD 6, d.getLsbD 5, d.getLsbD 4, d.getLsbD 3,
      d.getLsbD 2, d.getLsbD 1, d.getLsbD 0] := by
  have hlow : ∀ q : Fin 8, (lo8 d).getLsbD (7 - q.val) = d.getLsbD (7 - q.val) := by
    intro q
    rw [lo8, BitVec.getLsbD_extractLsb', Nat.zero_add, decide_eq_true (by omega), Bool.true_and]
  simp only [flagBits, hlow]
  rfl

/-- An access without annotation is no duplicate candidate, as the candidates are annotated
(42_framing_direction_annotation.md R70). -/
theorem isDupCandidate_of_aNone {p : Params} {c : RegClass} {r : Bool} {d : Half}
    (h : annotationOf p c r d = .aNone) : isDupCandidate c r = false := by
  rw [Bool.eq_false_iff, ne_eq, isDupCandidate_iff]
  rintro ⟨rfl, rfl | rfl⟩ <;> exact Annotation.noConfusion h

/-- An access without annotation has the category of its direction (30_encoding.md R43). -/
theorem category_of_aNone {p : Params} {c : RegClass} {r : Bool} {d : Half}
    (h : annotationOf p c r d = .aNone) (a : AddrCode) :
    category (regName c a r) r = if r then .catRead else .catWrite := by
  cases r with
  | false => rfl
  | true =>
    cases c with
    | cErr => exact Annotation.noConfusion h
    | cStat => exact Annotation.noConfusion h
    | cAlt => exact Annotation.noConfusion h
    | _ => rfl

/-- An access without annotation closes an open burst and emits a plain frame, whatever went before
(45_sample_classes.md R91). -/
theorem exec_of_aNone {i : Instr} {s : State} {r : Bool} {a : AddrCode} {d : Half} {c : RegClass}
    (hi : i.sample = accessSample r a d) (hp : s.phase = .run) (hc : classOf s.params a = c)
    (hdata : c ≠ .cData) (hann : annotationOf s.params c r d = .aNone) :
    exec i s = .next { s with
      idx := s.idx + 1
      burst := none
      out := s.out ++ (burstFrames s.burst ++
        [line s.idx d r (regName c a r) .aNone (if r then .catRead else .catWrite)]) } := by
  rw [exec_of_not_candidate hi hp hc hdata (isDupCandidate_of_aNone hann), hann,
    category_of_aNone hann]

end Sys2Proof.Safety
end

section
/-! The rows of 45_sample_classes.md R92 to R112, each under the class the default map gives its code. -/

namespace Sys2Proof.Safety

open Sys2Proof.Machine

/-! ### Words -/

/-- Settles O6: decoding computes on each of the seven words. -/
theorem writtenOutWordsDecode : Obligations.WrittenOutWordsDecode := by
  unfold Obligations.WrittenOutWordsDecode
  decide

/-! ### Framing errors -/

/-- A word in the row of an instruction has its strobes (30_encoding.md R45). -/
theorem decodeSample_strobes_of_row {w : Word} {i : Instr}
    (h : w &&& i.row.mask = i.row.matchWord) :
    (decodeSample w).dior = i.sample.dior ∧ (decodeSample w).diow = i.sample.diow := by
  have hsel := (row_eq_iff _ _).mp ((and_row_mask_eq_iff w i).mp h)
  rw [decodeWord, sample_ofSample] at hsel
  exact ⟨(congrArg Sample.dior hsel).symm, (congrArg Sample.diow hsel).symm⟩

/-- A record with both strobes 0 decodes to `FE0` with its address and data (R92). -/
theorem decodeWord_framingFe0 {w : Word} (h : w &&& 0x03000000#32 = 0x00000000#32) :
    decodeWord w = .framingFe0 (w.extractLsb' 16 5) (w.extractLsb' 0 16) := by
  obtain ⟨hr, hw⟩ := decodeSample_strobes_of_row (i := .framingFe0 0#5 0#16) h
  rw [decodeWord, Instr.ofSample, hr, hw]
  rfl

/-- A record with both strobes 1 decodes to `FE1` with its address and data (R92). -/
theorem decodeWord_framingFe1 {w : Word} (h : w &&& 0x03000000#32 = 0x03000000#32) :
    decodeWord w = .framingFe1 (w.extractLsb' 16 5) (w.extractLsb' 0 16) := by
  obtain ⟨hr, hw⟩ := decodeSample_strobes_of_row (i := .framingFe1 0#5 0#16) h
  rw [decodeWord, Instr.ofSample, hr, hw]
  rfl

/-- A record with equal strobes takes the framing-error exception and no other step (R92). -/
theorem exec_of_framing {i : Instr} {s : State} (hp : s.phase = .run)
    (hf : isFraming i.sample = true) :
    exec i s = .next { s with idx := s.idx + 1, out := s.out ++
      [.fFraming { idx := s.idx, sample := i.sample, cat := .catError }] } := by
  rw [exec_eq, inRun_run _ _ hp, recordEffect, if_pos hf, takeException_framingError]

/-- Settles O18: the strobes select the row, and the exception is all the row does. -/
theorem framingErrorIsReportedOnly : Obligations.FramingErrorIsReportedOnly :=
  fun _ _ _ hp => ⟨fun _ => decodeWord_framingFe0, fun _ => decodeWord_framingFe1,
    exec_of_framing hp rfl, exec_of_framing hp rfl⟩

/-! ### DATA -/

/-- A DATA access opens a burst or is absorbed, whatever the direction of the open burst
(45_sample_classes.md R93, R94). -/
theorem exec_dataAccess {i : Instr} {s : State} {r : Bool} {a : AddrCode} {d : Half}
    (hi : i.sample = accessSample r a d) (hp : s.phase = .run) (hc : classOf s.params a = .cData) :
    (s.burst = none → exec i s = .next
      { s with idx := s.idx + 1, burst := some { start := s.idx, isRead := r, buf := [d] } }) ∧
    (∀ b, s.burst = some b → exec i s = .next
      { s with idx := s.idx + 1, burst := some { b with buf := b.buf ++ [d] } }) := by
  have hdata : isDataInstr s.params i = true := by simp [isDataInstr_iff, hi, hc]
  have hexec := exec_of_isDataInstr hp hdata
  rw [hi, isReadSample_accessSample, accessSample_data] at hexec
  refine ⟨fun hb => ?opens, fun b hb => ?absorbed⟩
  case opens => rw [hexec, hb]; rfl
  case absorbed => rw [hexec, hb]; rfl

/-- Settles O20: `RD_DATA` is the DATA access that opens a read burst. -/
theorem readDataIsAbsorbed : Obligations.ReadDataIsAbsorbed :=
  fun _ _ hp hc =>
    ⟨encodeWord_of_accessSample (r := true) (a := 0x10#5) rfl,
      exec_dataAccess (r := true) rfl hp hc⟩

/-- Settles O21: `WR_DATA` is the DATA access that opens a write burst. -/
theorem writeDataIsAbsorbed : Obligations.WriteDataIsAbsorbed :=
  fun _ _ hp hc =>
    ⟨encodeWord_of_accessSample (r := false) (a := 0x10#5) rfl,
      exec_dataAccess (r := false) rfl hp hc⟩

/-! ### Annotated accesses without a tracker -/

/-- Settles O26: an ERROR read is annotated, but no duplicate candidate. -/
theorem readErrorEmitsErrorFlags : Obligations.ReadErrorEmitsErrorFlags := by
  intro d s hp hc
  refine ⟨encodeWord_of_accessSample (r := true) (a := 0x11#5) rfl, ?_⟩
  rw [exec_of_not_candidate (r := true) (d := d) rfl hp hc (by decide) rfl, ← flagBits_lo8]
  rfl

/-- Settles O30: a command is named by the lookup, and as a write is no duplicate candidate. -/
theorem writeCommandEmitsNamedFrame : Obligations.WriteCommandEmitsNamedFrame := by
  intro d s hp hc
  have hname : annotationOf s.params .cStat false d =
      .aCmd (lo8 d) ((s.params.cmdNames.lookup (lo8 d)).getD "UNKNOWN") := rfl
  refine ⟨encodeWord_of_accessSample (r := false) (a := 0x17#5) rfl, ?_⟩
  rw [exec_of_not_candidate (r := false) (d := d) rfl hp hc (by decide) rfl, hname]
  cases s.params.cmdNames.lookup (lo8 d) with
  | some n => rfl
  | none => rfl

/-! ### Accesses with a tracker -/

/-- The two outcomes of a candidate: suppressed behind an equal read at the index before, else emitted
(43_duplicate_suppression.md R75 to R77). -/
theorem exec_candidate_outcomes {i : Instr} {s : State} {a : AddrCode} {d : Half} {c : RegClass}
    (hi : i.sample = accessSample true a d) (hp : s.phase = .run) (hc : classOf s.params a = c)
    (hcand : c = .cStat ∨ c = .cAlt) :
    ((∃ li, trackerOf c s = some { lastIdx := li, lastData := d } ∧ s.idx = li + 1) →
      exec i s = .next { setTracker c { lastIdx := s.idx, lastData := d } s with
        idx := s.idx + 1
        burst := none
        out := s.out ++ burstFrames s.burst }) ∧
    ((¬ ∃ li, trackerOf c s = some { lastIdx := li, lastData := d } ∧ s.idx = li + 1) →
      exec i s = .next { setTracker c { lastIdx := s.idx, lastData := d } s with
        idx := s.idx + 1
        burst := none
        out := s.out ++ (burstFrames s.burst ++ [line s.idx d true (regName c a true)
          (.aFlags .vocStatus #v[d.getLsbD 7, d.getLsbD 6, d.getLsbD 5, d.getLsbD 4, d.getLsbD 3,
            d.getLsbD 2, d.getLsbD 1, d.getLsbD 0]) .catStatus]) }) := by
  rw [exec_of_candidate hi hp hc hcand, ← isDuplicate_iff, flagBits_lo8]
  refine ⟨fun hdup => ?suppressed, fun hdup => ?emitted⟩
  case suppressed => rw [if_pos hdup, List.append_nil]
  case emitted => rw [if_neg hdup]

/-- Settles O29: the candidate of `trkS`. -/
theorem readStatusSuppressesOrEmits : Obligations.ReadStatusSuppressesOrEmits :=
  fun _ _ hp hc => ⟨encodeWord_of_accessSample (r := true) (a := 0x17#5) rfl,
    exec_candidate_outcomes (a := 0x17#5) rfl hp hc (.inl rfl)⟩

/-- Settles O31: the candidate of `trkA`. -/
theorem readAltStatusSuppressesOrEmits : Obligations.ReadAltStatusSuppressesOrEmits :=
  fun _ _ hp hc => ⟨encodeWord_of_accessSample (r := true) (a := 0x0E#5) rfl,
    exec_candidate_outcomes (a := 0x0E#5) rfl hp hc (.inr rfl)⟩

/-! ### Accesses without annotation -/

/-- Settles O27: a write of the ERROR code is named FEATURES and has no breakdown. -/
theorem writeFeaturesEmitsPlainFrame : Obligations.WriteFeaturesEmitsPlainFrame :=
  fun _ _ hp hc => ⟨encodeWord_of_accessSample (r := false) (a := 0x11#5) rfl,
    exec_of_aNone (r := false) rfl hp hc (by decide) rfl⟩

/-- Settles O32: a write of the ALT_STATUS code is named DEVICE_CONTROL and is no candidate. -/
theorem writeDeviceControlEmitsPlainFrame : Obligations.WriteDeviceControlEmitsPlainFrame :=
  fun _ _ hp hc => ⟨encodeWord_of_accessSample (r := false) (a := 0x0E#5) rfl,
    exec_of_aNone (r := false) rfl hp hc (by decide) rfl⟩

/-- What the columns of a row without annotation say of its instruction. -/
structure AccessRow.PlainColumns (r : AccessRow) : Prop where
  sample : ∀ d, (r.ctor d).sample = accessSample r.isRead r.code d
  matchWord : ∀ d, (r.ctor d).row.matchWord = r.matchWord
  notData : r.cls ≠ .cData
  reg : regName r.cls r.code r.isRead = r.reg
  ann : ∀ p d, annotationOf p r.cls r.isRead d = .aNone

/-- The columns of each of the ten rows agree with the decoder and the register map. -/
theorem plainColumns_of_mem_taskFileRows {r : AccessRow} (hr : r ∈ taskFileRows) :
    r.PlainColumns := by
  unfold taskFileRows at hr
  fin_cases hr <;> exact ⟨fun _ => rfl, fun _ => rfl, by decide, rfl, fun _ _ => rfl⟩

/-- Settles O28: every row is an access without annotation. -/
theorem taskFileRowsEmitPlainFrames : Obligations.TaskFileRowsEmitPlainFrames := by
  intro r hr d s hp hc
  obtain ⟨hsample, hmatch, hdata, hreg, hann⟩ := plainColumns_of_mem_taskFileRows hr
  refine ⟨?_, ?_⟩
  · rw [encodeWord_of_accessSample (hsample d), hmatch]
  · rw [exec_of_aNone (hsample d) hp hc hdata (hann _ _), hreg]

/-! ### Unknown addresses -/

/-- Each of the 23 read rows is a read of the code beside it (45_sample_classes.md R111). -/
theorem sample_of_mem_unknownReadRows {r : (Half → Instr) × AddrCode} (hr : r ∈ unknownReadRows)
    (d : Half) : (r.1 d).sample = accessSample true r.2 d := by
  unfold unknownReadRows at hr
  fin_cases hr <;> rfl

/-- Each of the 23 write rows is a write of the code beside it (45_sample_classes.md R112). -/
theorem sample_of_mem_unknownWriteRows {r : (Half → Instr) × AddrCode} (hr : r ∈ unknownWriteRows)
    (d : Half) : (r.1 d).sample = accessSample false r.2 d := by
  unfold unknownWriteRows at hr
  fin_cases hr <;> rfl

/-- Settles O33: a read of an unknown code carries its raw address and has no annotation. -/
theorem unknownReadsEmitRawAddress : Obligations.UnknownReadsEmitRawAddress := by
  intro r hr d s hp hc
  have hsample := sample_of_mem_unknownReadRows hr d
  refine ⟨?_, exec_of_aNone hsample hp hc (by decide) rfl⟩
  rw [encodeWord, hsample]
  exact encodeSample_readSample r.2 d

/-- Settles O34: a write of an unknown code carries its raw address and has no annotation. -/
theorem unknownWritesEmitRawAddress : Obligations.UnknownWritesEmitRawAddress := by
  intro r hr d s hp hc
  have hsample := sample_of_mem_unknownWriteRows hr d
  refine ⟨?_, exec_of_aNone hsample hp hc (by decide) rfl⟩
  rw [encodeWord, hsample]
  exact encodeSample_writeSample r.2 d

end Sys2Proof.Safety
end

section
/-! What a step does, said by the effect of what it consumed (46_decoder_step.md R114 to R118), and which
of the three effects a state calls for. -/

namespace Sys2Proof.Safety

open Sys2Proof.Machine

/-- A record is counted, whatever its class (10_state.md R14). -/
theorem recordEffect_idx (smp : Sample) (s : State) : (recordEffect smp s).idx = s.idx + 1 := by
  rcases recordEffect_cases smp s with ⟨-, he⟩ | ⟨-, -, he⟩ | ⟨-, -, he⟩
  · rw [he, takeException_framingError]
  · rw [he, dataSample_eq]
  · rw [he, regSample_eq]

/-- What a step that answers a next state did, the record's part said by its effect. -/
theorem step_effect_cases {s t : State} (h : step s = .next t) :
    s.phase = .run ∧
      ((4 * s.idx + 4 ≤ s.src.len ∧ t = recordEffect (sampleAt s.src s.idx) s) ∨
        (s.src.len = 4 * s.idx ∧ t = endOfInput s) ∨
        (4 * s.idx < s.src.len ∧ s.src.len < 4 * s.idx + 4 ∧
          t = truncated (s.src.len - 4 * s.idx) s)) := by
  obtain ⟨hp, ⟨hlen, hexec⟩ | hend | htail⟩ := step_cases s t h
  · rw [exec_eq, sample_ofSample] at hexec
    exact ⟨hp, .inl ⟨hlen, (inRun_next _ _ _ hexec).2⟩⟩
  · exact ⟨hp, .inr (.inl hend)⟩
  · exact ⟨hp, .inr (.inr htail)⟩

/-- Outside `RUN` there is no step (46_decoder_step.md R118). -/
theorem step_over (s : State) (hp : s.phase ≠ .run) : step s = .fault .passOver := by
  unfold step
  split
  · next hrun => exact absurd hrun hp
  · rfl
  · rfl

/-- Four bytes that decode to an instruction are fetched as its record (41_sample_codec.md R65). -/
theorem nextItem_of_decode {m : Memory} {i : Nat} {bytes rest : List Byte} {instr : Instr}
    (hread : m.read (4 * i) 4 = some bytes) (hdec : decode bytes = .ok (instr, rest)) :
    nextItem m i = some (.record instr) := by
  have hlen : 4 * i + 4 ≤ m.len := by
    by_contra hshort
    rw [Memory.read, if_neg hshort] at hread
    cases hread
  rw [nextItem, Nat.min_eq_left (by omega), hread, Option.map_some, itemOf, hdec]

/-- Settles O12: an instruction has the effect of its sample, of which each part is said by a lemma. -/
theorem everyRecordCompletes : Obligations.EveryRecordCompletes := by
  intro i s hp
  obtain ⟨fs, hout, hlen⟩ := recordEffect_appends i.sample s
  obtain ⟨hsrc, hparams⟩ := recordEffect_keeps_inputs i.sample s
  refine ⟨recordEffect i.sample s, fs, ?_, recordEffect_idx _ s, (recordEffect_phase _ s).trans hp,
    hout, hlen, hsrc, hparams⟩
  rw [exec_eq, inRun_run _ _ hp]

/-- Settles O54, by the three kinds of step. -/
theorem controlMovesOnlyForward : Obligations.ControlMovesOnlyForward := by
  intro s t h
  obtain ⟨hp, ⟨hlen, rfl⟩ | ⟨hlen, rfl⟩ | ⟨hlt, hlen, rfl⟩⟩ := step_effect_cases h
  · exact ⟨hp, .inl ⟨hlen, (recordEffect_phase _ s).trans hp, recordEffect_idx _ s⟩⟩
  · rw [endOfInput_eq]
    exact ⟨hp, .inr (.inl ⟨hlen, rfl, rfl, rfl⟩)⟩
  · rw [truncated_eq]
    exact ⟨hp, .inr (.inr ⟨hlt, hlen, rfl, rfl⟩)⟩

/-- Settles O11: in `RUN` the fetch answers the record, and outside it neither side has a step. -/
theorem stepRunsTheDecodedRecord : Obligations.StepRunsTheDecodedRecord := by
  intro s bytes i hread hdec
  by_cases hp : s.phase = .run
  · rw [step, hp, nextItem_of_decode hread hdec]
  · rw [step_over s hp, exec_eq, inRun_over _ _ hp]

/-- Settles O13: the step is `endOfInput`. -/
theorem endOfInputFlushesAndIsDone : Obligations.EndOfInputFlushesAndIsDone := by
  intro s hp hlen
  rw [step_end s hp hlen, endOfInput_eq]

/-- Settles O14: the step is `truncated` with the bytes left over, for both values of the parameter. -/
theorem truncatedTailFails : Obligations.TruncatedTailFails := by
  intro s k hp hk hk3 hlen
  have hleft : s.src.len - 4 * s.idx = k := by omega
  rw [step_tail s hp (by omega) (by omega), hleft, truncated_eq]
  refine ⟨fun hflush => ?kept, fun hflush => ?flushed⟩
  case kept => simp [hflush]
  case flushed => simp [hflush]

/-- Settles O15: neither a step nor an instruction consumes anything, and a start resets every field. -/
theorem noStepAfterThePass : Obligations.NoStepAfterThePass :=
  fun s hp => ⟨step_over s hp, fun i => by rw [exec_eq, inRun_over _ _ hp], rfl⟩

/-- Settles O55: within the store there is a record, the end or a tail at the fetch position. -/
theorem runningPassNeverStops : Obligations.RunningPassNeverStops := by
  intro s hinv hp
  have hwithin := hinv.within
  rcases (by omega : 4 * s.idx + 4 ≤ s.src.len ∨ s.src.len = 4 * s.idx ∨
      4 * s.idx < s.src.len ∧ s.src.len < 4 * s.idx + 4) with hrec | hend | ⟨hlt, hlt4⟩
  · exact ⟨_, step_record s hp hrec⟩
  · exact ⟨_, step_end s hp hend⟩
  · exact ⟨_, step_tail s hp hlt hlt4⟩

end Sys2Proof.Safety
end

section
/-! The invariant and the output equation of a pass (46_decoder_step.md R124): a record is consumed as the
store describes it, and the two ends of a pass add the flush and the report of a tail. -/

namespace Sys2Proof.Safety

open Sys2Proof.Machine

/-- On a state of a pass a step consumes the record as the store describes it, or ends the pass. -/
theorem Inv.step_cases {s t : State} (hinv : Inv s) (h : step s = .next t) :
    s.phase = .run ∧
      ((4 * s.idx + 4 ≤ s.src.len ∧ t = consumed s) ∨
        (s.src.len = 4 * s.idx ∧ t = endOfInput s) ∨
        (4 * s.idx < s.src.len ∧ s.src.len < 4 * s.idx + 4 ∧
          t = truncated (s.src.len - 4 * s.idx) s)) := by
  obtain ⟨hp, hcase⟩ := step_effect_cases h
  rw [recordEffect_eq_consumed s (hinv.seenFromStore hp)] at hcase
  exact ⟨hp, hcase⟩

/-- A record keeps the invariant (R124 (a) to (d), (f)). -/
theorem inv_consumed {s : State} (hinv : Inv s) (hp : s.phase = .run)
    (hlen : 4 * s.idx + 4 ≤ s.src.len) : Inv (consumed s) where
  store := hinv.store
  within := hlen
  trkS := rfl
  trkA := rfl
  burstRun := fun _ => rfl
  atDone := fun hdone => Phase.noConfusion (hp.symm.trans hdone)
  atFailed := fun hfailed => Phase.noConfusion (hp.symm.trans hfailed)

/-- The end of the store leaves nothing open (46_decoder_step.md R116). -/
theorem inv_endOfInput {s : State} (hinv : Inv s) (hlen : s.src.len = 4 * s.idx) :
    Inv (endOfInput s) := by
  rw [endOfInput_eq]
  exact { hinv with burstRun := nofun, atDone := fun _ => ⟨rfl, hlen⟩, atFailed := nofun }

/-- A truncated tail closes the burst if the parameter says so, and else keeps it
(46_decoder_step.md R117). -/
theorem inv_truncated {s : State} (hinv : Inv s) (hp : s.phase = .run) (k : Nat)
    (hlt : 4 * s.idx < s.src.len) (hlt4 : s.src.len < 4 * s.idx + 4) : Inv (truncated k s) := by
  rw [truncated_eq]
  exact { hinv with
    burstRun := nofun
    atDone := nofun
    atFailed := fun _ => ⟨hlt, hlt4, by rw [hinv.burstRun hp]⟩ }

/-- Settles O44, by the three kinds of step. -/
theorem stepKeepsInvariant : Obligations.StepKeepsInvariant := by
  intro s t hinv h
  obtain ⟨hp, ⟨hlen, rfl⟩ | ⟨hlen, rfl⟩ | ⟨hlt, hlt4, rfl⟩⟩ := hinv.step_cases h
  · exact inv_consumed hinv hp hlen
  · exact inv_endOfInput hinv hlen
  · exact inv_truncated hinv hp _ hlt hlt4

/-- While the pass runs, its output is what its records call for. -/
theorem expectedOut_of_run {s : State} (hp : s.phase = .run) :
    expectedOut s = framesBelow s.src s.params s.idx := by
  rw [expectedOut, hp, List.append_nil]

/-- Settles O45: a record appends its frames, the end of the store the flush, a tail its report behind
the flush the parameter asks for. -/
theorem stepKeepsOutputExplained : Obligations.StepKeepsOutputExplained := by
  intro s t hinv hout h
  obtain ⟨hp, hcase⟩ := hinv.step_cases h
  rw [expectedOut_of_run hp] at hout
  have hburst := hinv.burstRun hp
  obtain ⟨-, rfl⟩ | ⟨-, rfl⟩ | ⟨-, -, rfl⟩ := hcase
  · rw [expectedOut_of_run (s := consumed s) hp]
    show s.out ++ framesAt s.src s.params s.idx = framesBelow s.src s.params (s.idx + 1)
    rw [framesBelow_succ, hout]
  · rw [endOfInput_eq, hout, hburst]
    rfl
  · rw [truncated_eq, hout, hburst]
    rfl

end Sys2Proof.Safety
end

section
/-! A whole pass over any store (46_decoder_step.md R115; 70_reset_and_hazards.md R178), and what of the
store a part of a pass can depend on (R119). -/

namespace Sys2Proof.Safety

open Sys2Proof.Machine

/-- Settles O49: the pass is at record `k` after `k` steps, and the remainder says how it ends. -/
theorem passEndsAfterEveryRecord : Obligations.PassEndsAfterEveryRecord := by
  intro m p s hs
  rw [startPass_eq_passState] at hs
  obtain rfl := Host.Outcome.next.inj hs
  have hwithin : 4 * m.recordCount ≤ m.len := Nat.mul_div_le m.len 4
  have hlast := run_succ_of_run (run_passState m p m.recordCount hwithin) (step_passState_last m p)
  refine ⟨fun k hk => ⟨_, run_passState m p k (by omega), rfl, rfl⟩, _, hlast, ?_⟩
  split
  · next h0 =>
    rw [endOfInput_eq]
    exact ⟨rfl, fun _ => ⟨rfl, rfl⟩, fun hn => absurd h0 hn⟩
  · next h0 =>
    rw [truncated_eq]
    exact ⟨rfl, fun hz => absurd hz h0, fun _ => ⟨rfl, _, (List.append_assoc ..).symm⟩⟩

/-- A record's effect reads nothing of the store but the sample it is handed (46_decoder_step.md R119). -/
theorem recordEffect_with_src (smp : Sample) (s : State) (m : Memory) :
    recordEffect smp { s with src := m } = { recordEffect smp s with src := m } := by
  unfold recordEffect
  split
  · rfl
  · rw [access_eq, access_eq]
    split
    · rfl
    · rw [regSample_eq, regSample_eq]
      rfl

/-- Equal bytes below the end of a record make equal samples. -/
theorem sampleAt_of_agreeBelow {n i : Nat} {m m' : Memory} (h : agreeBelow n m m')
    (hi : 4 * i + 4 ≤ n) : sampleAt m' i = sampleAt m i := by
  obtain ⟨-, -, hbytes⟩ := h
  unfold sampleAt recordWord
  rw [hbytes _ (by omega), hbytes _ (by omega), hbytes _ (by omega), hbytes _ (by omega)]

/-- Over a store that agrees up to the end of the next record, a step does the same. -/
theorem step_record_with_src {n : Nat} {s : State} {m : Memory} (hp : s.phase = .run)
    (hagree : agreeBelow n s.src m) (hn : 4 * s.idx + 4 ≤ n) :
    step { s with src := m } =
      .next { recordEffect (sampleAt s.src s.idx) s with src := m } := by
  have ⟨_, hlen, _⟩ := hagree
  rw [step_record { s with src := m } hp (hn.trans hlen), recordEffect_with_src,
    sampleAt_of_agreeBelow hagree hn]

/-- Settles O51, by induction on the number of steps: the first consumes the same record from both
stores. -/
theorem prefixOfStoreDeterminesPrefixOfRun : Obligations.PrefixOfStoreDeterminesPrefixOfRun := by
  intro n k
  induction k with
  | zero => exact fun s m' _ _ _ => ⟨s, rfl, rfl⟩
  | succ k ih =>
    intro s m' hagree hk hp
    have hrec : 4 * s.idx + 4 ≤ 4 * n := by omega
    have ⟨hlen, _, _⟩ := hagree
    have hstep := step_record s hp (hrec.trans hlen)
    have hstep' := step_record_with_src hp hagree hrec
    have hidx := recordEffect_idx (sampleAt s.src s.idx) s
    obtain ⟨hsrc, -⟩ := recordEffect_keeps_inputs (sampleAt s.src s.idx) s
    obtain ⟨t, ht, ht'⟩ := ih _ m' (by rw [hsrc]; exact hagree) (by omega)
      ((recordEffect_phase _ s).trans hp)
    exact ⟨t, (run_succ_of_next k hstep).trans ht, (run_succ_of_next k hstep').trans ht'⟩

end Sys2Proof.Safety
end

section
/-! The order of the output (46_decoder_step.md R123): every operation of a record keeps it, and the report
of a tail may only be last. -/

namespace Sys2Proof.Safety

open Sys2Proof.Machine

/-- A frame that is no `F_IOERR` may stand before any frame with a greater key. -/
theorem mayPrecede_of_key_lt {f g : Frame} (hio : isIoErrFrame f = false) (hkey : f.key < g.key) :
    mayPrecede f g := by
  unfold mayPrecede
  split
  · cases hio
  · exact Nat.ne_of_lt hkey
  · exact hkey

/-- An output in order stays so under a frame that all of it may precede. -/
theorem pairwise_mayPrecede_concat {out : List Frame} {g : Frame} (hout : out.Pairwise mayPrecede)
    (hg : ∀ f ∈ out, mayPrecede f g) : (out ++ [g]).Pairwise mayPrecede := by
  simpa [List.pairwise_append] using ⟨hout, hg⟩

/-- What holds of the output and of one more frame holds of the output with that frame. -/
theorem forall_mem_concat {P : Frame → Prop} {out : List Frame} {g : Frame} (hout : ∀ f ∈ out, P f)
    (hg : P g) : ∀ f ∈ out ++ [g], P f :=
  List.forall_mem_append.mpr ⟨hout, List.forall_mem_singleton.mpr hg⟩

/-- `Ordered` without an `F_IOERR`, which is how it stands while the pass runs. -/
structure ReportsOrdered (s : State) : Prop where
  pairs : s.out.Pairwise mayPrecede
  below : ∀ f ∈ s.out, isIoErrFrame f = false ∧ f.key < s.idx
  opened : ∀ b, s.burst = some b → b.start < s.idx ∧
    ∀ f ∈ s.out, (isFramingFrame f = false → f.key < b.start) ∧ f.key ≠ b.start

/-- An `F_IOERR` comes only with `FAILED`. -/
theorem Ordered.reportsOrdered {s : State} (h : Ordered s) (hp : s.phase = .run) :
    ReportsOrdered s := by
  have hio : ∀ f ∈ s.out, isIoErrFrame f = false := by
    intro f hf
    by_contra hne
    obtain ⟨-, hfailed⟩ := h.ioErr f hf (Bool.eq_true_of_not_eq_false hne)
    exact Phase.noConfusion (hp.symm.trans hfailed)
  refine ⟨h.pairs, fun f hf => ⟨hio f hf, h.below f hf (hio f hf)⟩, fun b hb => ?_⟩
  obtain ⟨hstart, hout⟩ := h.opened b hb
  exact ⟨hstart, fun f hf => hout f hf (hio f hf)⟩

theorem ReportsOrdered.ordered {s : State} (h : ReportsOrdered s) : Ordered s := by
  refine ⟨h.pairs, fun f hf _ => (h.below f hf).2, fun f hf hio => ?_, fun b hb => ?_⟩
  · obtain ⟨hno, -⟩ := h.below f hf
    exact Bool.noConfusion (hno.symm.trans hio)
  · obtain ⟨hstart, hout⟩ := h.opened b hb
    exact ⟨hstart, fun f hf _ => hout f hf⟩

/-- The order is one of position, burst and output alone. -/
theorem ReportsOrdered.of_fields {s t : State} (h : ReportsOrdered s) (hidx : t.idx = s.idx)
    (hburst : t.burst = s.burst) (hout : t.out = s.out) : ReportsOrdered t := by
  obtain ⟨hpairs, hbelow, hopened⟩ := h
  rw [← hout] at hpairs hbelow hopened
  rw [← hidx] at hbelow hopened
  rw [← hburst] at hopened
  exact ⟨hpairs, hbelow, hopened⟩

theorem ReportsOrdered.advance {s : State} (h : ReportsOrdered s) : ReportsOrdered (advance s) := by
  refine ⟨h.pairs, fun f hf => ?_, fun b hb => ?_⟩
  · obtain ⟨hio, hkey⟩ := h.below f hf
    exact ⟨hio, Nat.lt_succ_of_lt hkey⟩
  · obtain ⟨hstart, hout⟩ := h.opened b hb
    exact ⟨Nat.lt_succ_of_lt hstart, hout⟩

/-- The frame of a burst stands behind all but framing errors inside its run (44_data_burst.md R83). -/
theorem ReportsOrdered.flushBurst {s : State} (h : ReportsOrdered s) :
    ReportsOrdered (flushBurst s) := by
  rw [flushBurst_eq]
  cases hb : s.burst with
  | none => exact h.of_fields rfl hb.symm (List.append_nil _)
  | some b =>
    obtain ⟨hstart, hout⟩ := h.opened b hb
    refine ⟨pairwise_mayPrecede_concat h.pairs fun f hf => ?_,
      forall_mem_concat h.below ⟨rfl, hstart⟩, nofun⟩
    obtain ⟨hio, -⟩ := h.below f hf
    obtain ⟨hkey, hne⟩ := hout f hf
    cases f with
    | fFraming a => exact hne
    | fIoErr a => cases hio
    | fReg a => exact mayPrecede_of_key_lt hio (hkey rfl)
    | fBurst a => exact mayPrecede_of_key_lt hio (hkey rfl)

/-- A record reported at its index, with no burst open unless it is a framing error
(42_framing_direction_annotation.md R67; 45_sample_classes.md R91). -/
theorem ReportsOrdered.emit_advance {s : State} {g : Frame} (h : ReportsOrdered s)
    (hio : isIoErrFrame g = false) (hkey : g.key = s.idx)
    (hb : s.burst = none ∨ isFramingFrame g = true) :
    ReportsOrdered (Machine.advance (emit g s)) := by
  refine ⟨pairwise_mayPrecede_concat h.pairs fun f hf => ?_,
    forall_mem_concat h.advance.below ⟨hio, hkey ▸ Nat.lt_succ_self s.idx⟩, fun b hopen => ?_⟩
  · obtain ⟨hfio, hfkey⟩ := h.below f hf
    exact mayPrecede_of_key_lt hfio (hkey ▸ hfkey)
  · obtain ⟨hstart, hout⟩ := h.opened b hopen
    refine ⟨Nat.lt_succ_of_lt hstart,
      forall_mem_concat hout ⟨fun hno => ?_, hkey ▸ Nat.ne_of_gt hstart⟩⟩
    rcases hb with hnone | hframing
    · cases hnone.symm.trans hopen
    · cases hno.symm.trans hframing

/-- A DATA sample opens a burst behind the whole output, or leaves its start (44_data_burst.md R81,
R82). -/
theorem ReportsOrdered.dataSample {s : State} (h : ReportsOrdered s) (smp : Sample) (r : Bool) :
    ReportsOrdered (dataSample smp r s) := by
  rw [dataSample_eq]
  refine ⟨h.pairs, h.advance.below, fun b hb => ?_⟩
  obtain rfl := Option.some.inj hb
  cases hopen : s.burst with
  | none =>
    refine ⟨Nat.lt_succ_self s.idx, fun f hf => ?_⟩
    obtain ⟨-, hkey⟩ := h.below f hf
    exact ⟨fun _ => hkey, Nat.ne_of_lt hkey⟩
  | some b => exact h.advance.opened b hopen

/-- A register access flushes and then emits at most its own frame (45_sample_classes.md R91). -/
theorem ReportsOrdered.regSample {s : State} (h : ReportsOrdered s) (smp : Sample) (r : Bool)
    (c : RegClass) : ReportsOrdered (regSample smp r c s) := by
  rw [regSample_eq, ← List.append_assoc]
  have hburst : (Machine.flushBurst s).burst = none := by rw [flushBurst_eq]
  by_cases hs : isSuppressed s c r smp.data
  · refine h.flushBurst.advance.of_fields ?_ ?_ ?_ <;> simp [flushBurst_eq, hs]
  · refine (h.flushBurst.emit_advance (g := .fReg (regFrame s.params smp r s.idx)) rfl ?_
      (.inl hburst)).of_fields ?_ ?_ ?_ <;> simp [flushBurst_eq, Frame.key, regFrame, hs]

/-- A record keeps the order, by the three cases of a record. -/
theorem ReportsOrdered.recordEffect {s : State} (h : ReportsOrdered s) (smp : Sample) :
    ReportsOrdered (recordEffect smp s) := by
  rcases recordEffect_cases smp s with ⟨-, he⟩ | ⟨-, -, he⟩ | ⟨-, -, he⟩
  · rw [he]
    exact h.emit_advance rfl rfl (.inr rfl)
  · rw [he]
    exact h.dataSample smp _
  · rw [he]
    exact h.regSample smp _ _

/-- The report of a tail is the last frame (60_exceptions.md R153). -/
theorem ReportsOrdered.truncatedRecord {s : State} (h : ReportsOrdered s) (k : Nat) :
    Ordered (takeException (.truncatedRecord k) s) := by
  rw [takeException_truncatedRecord]
  obtain ⟨hpairs, hbelow, -, hopened⟩ := h.ordered
  refine ⟨pairwise_mayPrecede_concat hpairs fun f hf => ?_, forall_mem_concat hbelow nofun,
    forall_mem_concat (fun f hf hio => ?_) fun _ => ⟨rfl, rfl⟩, fun b hb => ?_⟩
  · obtain ⟨hio, hkey⟩ := h.below f hf
    exact mayPrecede_of_key_lt hio hkey
  · obtain ⟨hno, -⟩ := h.below f hf
    exact Bool.noConfusion (hno.symm.trans hio)
  · obtain ⟨hstart, hout⟩ := hopened b hb
    exact ⟨hstart, forall_mem_concat hout nofun⟩

/-- Settles O46: a step starts in `RUN`, where no `F_IOERR` stands in the output, and each of its
operations keeps the order. -/
theorem stepKeepsOutputOrder : Obligations.StepKeepsOutputOrder := by
  intro s t hord h
  obtain ⟨hp, hcase⟩ := step_effect_cases h
  have hrep := hord.reportsOrdered hp
  obtain ⟨-, rfl⟩ | ⟨-, rfl⟩ | ⟨-, -, rfl⟩ := hcase
  · exact (hrep.recordEffect _).ordered
  · exact (hrep.flushBurst.of_fields (t := endOfInput s) rfl rfl rfl).ordered
  · unfold truncated
    split
    · exact hrep.flushBurst.truncatedRecord _
    · exact hrep.truncatedRecord _

end Sys2Proof.Safety
end

section
/-! Each row under the class its own word selects (30_encoding.md R45; 46_decoder_step.md R114). -/

namespace Sys2Proof.Safety

open Sys2Proof.Machine

/-- The framing check compares the strobes (42_framing_direction_annotation.md R67). -/
theorem isFraming_iff (smp : Sample) : isFraming smp = true ↔ smp.dior = smp.diow :=
  beq_iff_eq

/-- A suppressed access is a read with its own tracker, which calls it a duplicate
(43_duplicate_suppression.md R74, R75). -/
theorem isSuppressed_iff (s : State) (c : RegClass) (r : Bool) (d : Half) :
    isSuppressed s c r d = true ↔
      r = true ∧ (c = .cStat ∧ isDuplicate s.trkS s.idx d = true ∨
        c = .cAlt ∧ isDuplicate s.trkA s.idx d = true) := by
  have hS : trackerOf .cStat s = s.trkS := rfl
  have hA : trackerOf .cAlt s = s.trkA := rfl
  rw [isSuppressed, Bool.and_eq_true, isDupCandidate_iff]
  constructor
  · rintro ⟨⟨hr, rfl | rfl⟩, hd⟩
    · exact ⟨hr, .inl ⟨rfl, hS ▸ hd⟩⟩
    · exact ⟨hr, .inr ⟨rfl, hA ▸ hd⟩⟩
  · rintro ⟨hr, ⟨rfl, hd⟩ | ⟨rfl, hd⟩⟩
    · exact ⟨⟨hr, .inl rfl⟩, hS.symm ▸ hd⟩
    · exact ⟨⟨hr, .inr rfl⟩, hA.symm ▸ hd⟩

/-- An instruction whose code is of another class than DATA is a register access. -/
theorem exec_of_register {i : Instr} {s : State} (hp : s.phase = .run)
    (hf : isFraming i.sample = false) (hc : classOf s.params i.sample.address ≠ .cData) :
    exec i s = .next (regSample i.sample (isReadSample i.sample)
      (classOf s.params i.sample.address) s) := by
  rw [exec_eq, inRun_run _ _ hp, recordEffect, hf, access_eq, if_neg hc]
  rfl

/-- Settles O35: the strobes select the exception, and then the class the DATA access or the register
access. -/
theorem everyRowFollowsItsClass : Obligations.EveryRowFollowsItsClass := by
  intro i s hp smp cls isRead
  have hframing : smp.dior ≠ smp.diow → isFraming smp = false :=
    fun hne => Bool.eq_false_iff.mpr (mt (isFraming_iff smp).mp hne)
  refine ⟨fun heq => ?framing, fun hne hc => ?data, fun hne hc => ?register⟩
  case framing => exact exec_of_framing hp ((isFraming_iff smp).mpr heq)
  case data =>
    rw [exec_of_isDataInstr hp ((isDataInstr_iff _ _).mpr ⟨hframing hne, hc⟩)]
    cases hb : s.burst with
    | none => rfl
    | some b => rfl
  case register =>
    rw [exec_of_register hp (hframing hne) hc, regSample_eq]
    simp only [isDupCandidate_and_cStat, isDupCandidate_and_ne_cStat, isSuppressed_iff]
    rfl

end Sys2Proof.Safety
end

section
/-! The trackers and the open burst as records of the store (46_decoder_step.md R124 (b) to (d)). -/

namespace Sys2Proof.Safety

open Sys2Proof.Machine

/-- A tracker names a read of its register among the consumed records (10_state.md R15). -/
theorem lastRead_eq_some {m : Memory} {p : Params} {c : RegClass} {n li : Nat} {ld : Half}
    (h : lastRead m p c n = some { lastIdx := li, lastData := ld }) :
    li < n ∧ readAt m p c li = true ∧ (sampleAt m li).data = ld := by
  obtain ⟨i, hlast, heq⟩ := Option.map_eq_some_iff.mp h
  obtain ⟨rfl, rfl⟩ := Tracker.mk.inj heq
  obtain ⟨hrange, hread⟩ := List.mem_filter.mp (List.mem_of_getLast? hlast)
  exact ⟨List.mem_range.mp hrange, hread, rfl⟩

theorem accessesBelow_succ (m : Memory) (n : Nat) :
    accessesBelow m (n + 1) =
      if framingAt m n then accessesBelow m n else accessesBelow m n ++ [n] := by
  unfold accessesBelow
  rw [List.range_succ, List.filter_append]
  cases hf : framingAt m n <;> simp [hf]

theorem lt_of_mem_accessesBelow {m : Memory} {n i : Nat} (h : i ∈ accessesBelow m n) : i < n :=
  List.mem_range.mp (List.mem_of_mem_filter h)

/-- The data of the non-framing records from index `k` to `n` (44_data_burst.md R80). -/
def accessData (m : Memory) (k n : Nat) : List Half :=
  ((accessesBelow m n).filter fun i => k ≤ i).map fun i => (sampleAt m i).data

theorem accessData_succ_of_framing {m : Memory} {n : Nat} (k : Nat) (hf : framingAt m n = true) :
    accessData m k (n + 1) = accessData m k n := by
  rw [accessData, accessesBelow_succ, if_pos hf, accessData]

theorem accessData_succ_of_access {m : Memory} {k n : Nat} (hf : framingAt m n = false)
    (hk : k ≤ n) : accessData m k (n + 1) = accessData m k n ++ [(sampleAt m n).data] := by
  rw [accessData, accessesBelow_succ, hf, accessData]
  simp [hk]

/-- No record before `n` has an index from `n` on. -/
theorem accessData_self (m : Memory) (n : Nat) : accessData m n n = [] := by
  rw [accessData, List.map_eq_nil_iff, List.filter_eq_nil_iff]
  intro i hi
  have := lt_of_mem_accessesBelow hi
  simpa using this

/-- The burst is a run of DATA samples that reaches to record `n` (44_data_burst.md R80 to R82, R88). -/
structure IsOpenRun (m : Memory) (p : Params) (n : Nat) (b : Burst) : Prop where
  start_lt : b.start < n
  nonempty : b.buf ≠ []
  first : classAt m p b.start = .access b.isRead .cData
  head : b.buf.head? = some (sampleAt m b.start).data
  onlyData : ∀ i, b.start ≤ i → i < n → framingAt m i = false → dataAt m p i = true
  buf : b.buf = accessData m b.start n

/-- A framing error inside the run is passed over (44_data_burst.md R80). -/
theorem IsOpenRun.framing {m : Memory} {p : Params} {n : Nat} {b : Burst} (h : IsOpenRun m p n b)
    (hf : framingAt m n = true) : IsOpenRun m p (n + 1) b := by
  refine { h with
    start_lt := Nat.lt_succ_of_lt h.start_lt
    onlyData := fun i hi hin hacc => ?_
    buf := by rw [accessData_succ_of_framing _ hf, ← h.buf] }
  rcases Nat.lt_succ_iff_lt_or_eq.mp hin with hlt | rfl
  · exact h.onlyData i hi hlt hacc
  · exact Bool.noConfusion (hf.symm.trans hacc)

/-- A DATA sample lengthens the run (44_data_burst.md R82, R88). -/
theorem IsOpenRun.extend {m : Memory} {p : Params} {n : Nat} {b : Burst} (h : IsOpenRun m p n b)
    (hf : framingAt m n = false) (hd : dataAt m p n = true) :
    IsOpenRun m p (n + 1) { b with buf := b.buf ++ [(sampleAt m n).data] } where
  start_lt := Nat.lt_succ_of_lt h.start_lt
  nonempty := by simp
  first := h.first
  head := by
    rw [List.head?_append_of_ne_nil _ h.nonempty]
    exact h.head
  onlyData := fun i hi hin hacc => by
    rcases Nat.lt_succ_iff_lt_or_eq.mp hin with hlt | rfl
    · exact h.onlyData i hi hlt hacc
    · exact hd
  buf := by rw [accessData_succ_of_access hf h.start_lt.le, ← h.buf]

/-- A DATA sample with no run before it starts one (44_data_burst.md R81). -/
theorem isOpenRun_single {m : Memory} {p : Params} {n : Nat} (hf : framingAt m n = false)
    (hd : dataAt m p n = true) :
    IsOpenRun m p (n + 1)
      { start := n, isRead := isReadSample (sampleAt m n), buf := [(sampleAt m n).data] } where
  start_lt := Nat.lt_succ_self n
  nonempty := List.cons_ne_nil _ _
  first := by
    rw [dataAt_eq m p n hf, beq_iff_eq] at hd
    rw [classAt_access m p n hf, hd]
  head := rfl
  onlyData := fun i hi hin _ => by
    obtain rfl : i = n := Nat.le_antisymm (Nat.le_of_lt_succ hin) hi
    exact hd
  buf := by rw [accessData_succ_of_access hf le_rfl, accessData_self]; rfl

/-- The open burst is such a run, by induction on the records. -/
theorem isOpenRun_openBurst {m : Memory} {p : Params} {n : Nat} {b : Burst}
    (h : openBurst m p n = some b) : IsOpenRun m p n b := by
  induction n generalizing b with
  | zero => simp at h
  | succ n ih =>
    rw [openBurst_succ] at h
    split at h
    · next hf => exact (ih h).framing hf
    · next hf =>
      have hf := Bool.eq_false_iff.mpr hf
      split at h
      · next hd =>
        obtain rfl := Option.some.inj h
        cases hb : openBurst m p n with
        | none => exact isOpenRun_single hf hd
        | some b => exact (ih hb).extend hf hd
      · cases h

/-- With no burst open, the last non-framing record is no DATA sample (R124 (d)). -/
theorem dataAt_last_of_openBurst_none {m : Memory} {p : Params} {n i : Nat}
    (h : openBurst m p n = none) (hlast : (accessesBelow m n).getLast? = some i) :
    dataAt m p i = false := by
  induction n with
  | zero => simp [accessesBelow] at hlast
  | succ n ih =>
    rw [openBurst_succ] at h
    rw [accessesBelow_succ] at hlast
    cases hf : framingAt m n with
    | true =>
      rw [hf] at h hlast
      exact ih h hlast
    | false =>
      rw [hf] at h hlast
      obtain rfl : n = i := by simpa using hlast
      cases hd : dataAt m p n with
      | true => simp [hd] at h
      | false => rfl

/-- In every phase a burst that is open is that of the consumed records. -/
theorem Inv.openBurst_eq {s : State} {b : Burst} (hinv : Inv s) (hb : s.burst = some b) :
    openBurst s.src s.params s.idx = some b := by
  cases hp : s.phase with
  | run => exact (hinv.burstRun hp).symm.trans hb
  | done =>
    obtain ⟨hnone, -⟩ := hinv.atDone hp
    cases hnone.symm.trans hb
  | failed =>
    obtain ⟨-, -, hkept⟩ := hinv.atFailed hp
    split at hkept
    · cases hkept.symm.trans hb
    · exact hkept.symm.trans hb

/-- Settles O47: the trackers are the last reads, and an open burst is an open run of the store. -/
theorem trackersAndBurstDescribeTheStore : Obligations.TrackersAndBurstDescribeTheStore := by
  intro s hinv
  refine ⟨fun li ld ht => lastRead_eq_some (hinv.trkS.symm.trans ht),
    fun li ld ht => lastRead_eq_some (hinv.trkA.symm.trans ht), fun b hb => ?burst,
    fun hp hb i => dataAt_last_of_openBurst_none ((hinv.burstRun hp).symm.trans hb)⟩
  case burst =>
    obtain ⟨hstart, hne, hfirst, hhead, hdata, hbuf⟩ := isOpenRun_openBurst (hinv.openBurst_eq hb)
    exact ⟨hstart, hne, hfirst, hhead, hdata, hbuf⟩

end Sys2Proof.Safety
end

section
/-! The count of a finished pass (46_decoder_step.md R124): every record is a frame of its own, two bytes
of a burst, or a suppressed duplicate. -/

namespace Sys2Proof.Safety

open Sys2Proof.Machine

/-- Twice the records an output accounts for: the frames with a record of their own, and two bytes for
each record of a burst (44_data_burst.md R86). -/
def accounted (out : List Frame) : Nat := 2 * (regCount out + framingCount out) + burstBytes out

@[simp] theorem accounted_nil : accounted [] = 0 := rfl

@[simp] theorem accounted_fReg (f : RegFrame) : accounted [.fReg f] = 2 := rfl

@[simp] theorem accounted_fFraming (f : FramingFrame) : accounted [.fFraming f] = 2 := rfl

@[simp] theorem accounted_append (out fs : List Frame) :
    accounted (out ++ fs) = accounted out + accounted fs := by
  simp only [accounted, regCount, framingCount, burstBytes, List.countP_append, List.map_append,
    List.sum_append]
  omega

theorem accounted_closeBurst (b : Burst) : accounted [closeBurst b] = 2 * b.buf.length :=
  (Nat.zero_add _).trans (Nat.add_zero _)

/-- A DATA sample is two more bytes of the burst (44_data_burst.md R86). -/
@[simp] theorem accounted_closeBurst_absorb (i : Nat) (r : Bool) (d : Half) (b : Option Burst) :
    accounted [closeBurst (absorb i r d b)] = accounted (burstFrames b) + 2 := by
  cases b with
  | none => rfl
  | some b => simp [absorb, accounted_closeBurst, Nat.mul_add]

theorem suppressedCount_succ (m : Memory) (p : Params) (n : Nat) :
    suppressedCount m p (n + 1) = suppressedCount m p n + if suppressedAt m p n then 1 else 0 := by
  simp [suppressedCount, List.range_succ, List.countP_singleton]

/-- Only a read of a register with a tracker is suppressed (43_duplicate_suppression.md R74). -/
theorem suppressedAt_of_no_read {m : Memory} {p : Params} {n : Nat}
    (hS : readAt m p .cStat n = false) (hA : readAt m p .cAlt n = false) :
    suppressedAt m p n = false := by
  simp [suppressedAt, hS, hA]

theorem readAt_of_data {m : Memory} {p : Params} {n : Nat} {c : RegClass}
    (hf : framingAt m n = false) (hclass : classOf p (sampleAt m n).address = .cData)
    (hc : c ≠ .cData) : readAt m p c n = false := by
  rw [Bool.eq_false_iff, ne_eq, readAt_iff m p c n hf, hclass]
  exact fun ⟨_, heq⟩ => hc heq.symm

/-- One more record is accounted for, by its frame, by the open burst, or as suppressed. -/
theorem accounted_framesAt (m : Memory) (p : Params) (n : Nat) :
    accounted (framesAt m p n) + accounted (burstFrames (openBurst m p (n + 1))) +
        2 * (if suppressedAt m p n then 1 else 0) =
      accounted (burstFrames (openBurst m p n)) + 2 := by
  rw [openBurst_succ]
  cases hf : framingAt m n with
  | true =>
    have hsup := suppressedAt_of_no_read (readAt_framing m p .cStat n hf)
      (readAt_framing m p .cAlt n hf)
    rw [framesAt_framing m p n hf, hsup]
    simp [Nat.add_comm]
  | false =>
    rw [dataAt_eq m p n hf]
    by_cases hc : classOf p (sampleAt m n).address = .cData
    · have hsup := suppressedAt_of_no_read (readAt_of_data hf hc (c := .cStat) (by decide))
        (readAt_of_data hf hc (c := .cAlt) (by decide))
      rw [framesAt_data m p n hf hc, hsup]
      simp [hc]
    · rw [framesAt_register m p n hf hc]
      cases suppressedAt m p n <;> simp [hc]

/-- All records are accounted for, by induction on their number. -/
theorem accounted_framesBelow (m : Memory) (p : Params) (n : Nat) :
    accounted (framesBelow m p n ++ burstFrames (openBurst m p n)) + 2 * suppressedCount m p n =
      2 * n := by
  induction n with
  | zero => rfl
  | succ n ih =>
    have hrecord := accounted_framesAt m p n
    rw [framesBelow_succ, suppressedCount_succ]
    simp only [accounted_append] at ih ⊢
    omega

/-- Settles O48: the output is the frames of all records and the flush. -/
theorem donePassAccountsForEveryRecord : Obligations.DonePassAccountsForEveryRecord := by
  intro s hinv hout hp
  obtain ⟨-, hlen⟩ := hinv.atDone hp
  have hcount : s.src.recordCount = s.idx := by rw [Memory.recordCount, hlen]; omega
  have hframes : s.out =
      framesBelow s.src s.params s.idx ++ burstFrames (openBurst s.src s.params s.idx) := by
    rw [hout, expectedOut, hp]
  have hacc := accounted_framesBelow s.src s.params s.idx
  rw [← hframes, accounted] at hacc
  rw [hcount]
  omega

end Sys2Proof.Safety
end

section
/-! The store of a list of instructions (70_reset_and_hazards.md R170): the fetch hands the codec the next
four bytes of a store built from bytes, and a record boundary of the encodings is one of the list. With no
store to fetch from, no pass starts (60_exceptions.md R154). -/

namespace Sys2Proof.Machine

/-! ### Reading a store built from bytes -/

/-- A read that stays in the store answers a slice of the bytes it was built from (20_memory.md R24). -/
theorem ofBytes_read {bs : List Byte} {a n : Nat} (h : a + n ≤ bs.length) :
    (Memory.ofBytes bs).read a n = some ((bs.drop a).take n) := by
  rw [Memory.read, ofBytes_len, if_pos h]
  congr 1
  apply List.ext_getElem
  · simp; omega
  · intro k hk _
    have hkn : k < n := by simpa using hk
    rw [List.getElem_map, List.getElem_range, ofBytes_byteAt bs (a + k) (by omega),
      List.getElem_take, List.getElem_drop]

/-- The codec is handed the bytes left, at most four of them (41_sample_codec.md R65). -/
theorem nextItem_ofBytes {bs : List Byte} {i : Nat} (h : 4 * i ≤ bs.length) :
    nextItem (Memory.ofBytes bs) i = some (itemOf ((bs.drop (4 * i)).take 4)) := by
  have hslice : 4 * i + min 4 (bs.length - 4 * i) ≤ bs.length := by omega
  rw [nextItem, ofBytes_len, ofBytes_read hslice, Option.map_some, ← List.length_drop,
    ← List.take_eq_take_min]

/-! ### The bytes of a list of instructions -/

@[simp] theorem flatMap_encode_length (is : List Instr) :
    (is.flatMap encode).length = 4 * is.length := by
  simp [List.length_flatMap, Nat.mul_comm]

/-- Every record is four bytes, so dropping `k` of them drops `4 * k` bytes. -/
theorem drop_flatMap_encode {is : List Instr} {k : Nat} (h : k ≤ is.length) :
    (is.flatMap encode).drop (4 * k) = (is.drop k).flatMap encode := by
  have hbytes : is.flatMap encode = (is.take k).flatMap encode ++ (is.drop k).flatMap encode := by
    rw [← List.flatMap_append, List.take_append_drop]
  have hlen : ((is.take k).flatMap encode).length = 4 * k := by
    rw [flatMap_encode_length, List.length_take, Nat.min_eq_left h]
  rw [hbytes, List.drop_left' hlen]

/-- The bytes of an instruction are its record (41_sample_codec.md R62, R65). -/
theorem itemOf_encode (i : Instr) : itemOf (encode i) = .record i := by
  rw [itemOf, ← List.append_nil (encode i), decodeEncodeAgree i []]

/-! ### The store of the list -/

theorem ofInstrs_recordCount (is : List Instr) :
    (Memory.ofInstrs is).recordCount = is.length := by
  rw [Memory.recordCount, Memory.ofInstrs, ofBytes_len, flatMap_encode_length]
  omega

theorem nextItem_ofInstrs {is : List Instr} {k : Nat} (h : k ≤ is.length) :
    nextItem (Memory.ofInstrs is) k = some (itemOf (((is.drop k).flatMap encode).take 4)) := by
  rw [Memory.ofInstrs, nextItem_ofBytes (by rw [flatMap_encode_length]; omega),
    drop_flatMap_encode h]

/-- Settles O10: either an instruction is left, and its encoding stands first in the bytes left, or no
bytes are left. -/
theorem storeOfInstrsIsFetchedInOrder : Obligations.StoreOfInstrsIsFetchedInOrder := by
  intro is k hk
  refine ⟨ofInstrs_recordCount is, ?_⟩
  rw [nextItem_ofInstrs hk, ← List.head?_drop]
  cases is.drop k with
  | nil => rfl
  | cons i rest =>
    rw [List.flatMap_cons, List.take_left' (encode_length i), itemOf_encode, List.head?_cons]

/-! ### No store -/

/-- Settles O17: without a source `startPass` answers the fault. -/
theorem unopenableSourceStartsNoPass : Obligations.UnopenableSourceStartsNoPass := fun _ => rfl

end Sys2Proof.Machine
end
